-- ==== Sys2Proof/Word.lean ====
section
/-! DEFINITION. The machine's two word types (spec 00_scope R10: the data width is 8 bits, the address
width 16 bits).  Everything built from them (byte order, fields, sign extension) stands in
`Sys2Proof/Decode.lean` and `Sys2Proof/Machine/Bits.lean`. -/

namespace Sys2Proof

/-- A byte, 0..255 (R17: "a byte is a value in 0..255"). -/
abbrev Byte := BitVec 8

/-- A 16-bit word: an address, a register pair, SP or PC (R17). -/
abbrev Word := BitVec 16

end Sys2Proof
end

