-- ==== Sys2Proof/Syntax.lean ====
section
/-! DEFINITION. The instruction set as syntax: ONE inductive `Instr`, one constructor per row of
`spec/opcode_table.json` (30_encoding R406, R407, R414), with the row's immediate bytes as arguments.
The operand tables of R404 are small types, and for each regular block of R406/R407 a function
(`Instr.ldRR`, `Instr.aluR`, …) names the block's constructor at given table entries. -/

namespace Sys2Proof

/-- The 8-bit register operands of R404's table r[i], without the memory operand r[6] = (HL). -/
inductive R8 where
  | b | c | d | e | h | l | a
deriving DecidableEq, Repr

/-- R404's table rp[p]: the 16-bit operands of LD rr,d16, INC rr, DEC rr and ADD HL,rr. -/
inductive Rp where
  | bc | de | hl | sp
deriving DecidableEq, Repr

/-- R404's table rp2[p]: the pairs of PUSH and POP. -/
inductive Rp2 where
  | bc | de | hl | af
deriving DecidableEq, Repr

/-- R404's table cc[i]: the conditions. -/
inductive Cond where
  | nz | z | nc | c
deriving DecidableEq, Repr

/-- R404's table alu[i]: the eight accumulator operations. -/
inductive AluOp where
  | add | adc | sub | sbc | and | xor | or | cp
deriving DecidableEq, Repr

/-- R404's table rot[i]: the eight CB rotates and shifts. -/
inductive RotOp where
  | rlc | rrc | rl | rr | sla | sra | swap | srl
deriving DecidableEq, Repr

/-- The bit number y of BIT, RES and SET (R403). -/
inductive BitIx where
  | b0 | b1 | b2 | b3 | b4 | b5 | b6 | b7
deriving DecidableEq, Repr

/-- The bit number as a number. -/
def BitIx.toNat : BitIx → Nat
  | .b0 => 0 | .b1 => 1 | .b2 => 2 | .b3 => 3 | .b4 => 4 | .b5 => 5 | .b6 => 6 | .b7 => 7

/-- The field y of RST: the target is y * 8 (R403). -/
inductive RstVec where
  | t00 | t08 | t10 | t18 | t20 | t28 | t30 | t38
deriving DecidableEq, Repr

/-- The restart target t = y * 8 (R403, R761). -/
def RstVec.target : RstVec → Word
  | .t00 => 0x00 | .t08 => 0x08 | .t10 => 0x10 | .t18 => 0x18
  | .t20 => 0x20 | .t28 => 0x28 | .t30 => 0x30 | .t38 => 0x38

/-- The eleven undefined base opcodes (R408). -/
inductive IllegalOp where
  | d3 | db | dd | e3 | e4 | eb | ec | ed | f4 | fc | fd
deriving DecidableEq, Repr

/-- The opcode byte of an undefined opcode (R408). -/
def IllegalOp.byte : IllegalOp → Byte
  | .d3 => 0xD3 | .db => 0xDB | .dd => 0xDD | .e3 => 0xE3 | .e4 => 0xE4 | .eb => 0xEB
  | .ec => 0xEC | .ed => 0xED | .f4 => 0xF4 | .fc => 0xFC | .fd => 0xFD

/-- Every instruction: 244 base instructions, the eleven undefined opcodes, the 256 CB instructions and the
prefix row; the rows with operand bytes stand first.  `n` is an immediate byte (d8, a8, or STOP's second byte), `e` a displacement byte (e8),
`nn` a 16-bit immediate (d16 or a16), `c` the byte after the prefix. -/
inductive Instr where
  -- the base rows with operand bytes, in opcode order (R406)
  | ld_bc_d16 (nn : Word)
  | ld_b_d8 (n : Byte)
  | ld_atA16_sp (nn : Word)
  | ld_c_d8 (n : Byte)
  | stop (n : Byte)
  | ld_de_d16 (nn : Word)
  | ld_d_d8 (n : Byte)
  | jr_e8 (e : Byte)
  | ld_e_d8 (n : Byte)
  | jr_nz_e8 (e : Byte)
  | ld_hl_d16 (nn : Word)
  | ld_h_d8 (n : Byte)
  | jr_z_e8 (e : Byte)
  | ld_l_d8 (n : Byte)
  | jr_nc_e8 (e : Byte)
  | ld_sp_d16 (nn : Word)
  | ld_atHL_d8 (n : Byte)
  | jr_c_e8 (e : Byte)
  | ld_a_d8 (n : Byte)
  | jp_nz_a16 (nn : Word)
  | jp_a16 (nn : Word)
  | call_nz_a16 (nn : Word)
  | add_a_d8 (n : Byte)
  | jp_z_a16 (nn : Word)
  | prefix_cb (c : Byte)
  | call_z_a16 (nn : Word)
  | call_a16 (nn : Word)
  | adc_a_d8 (n : Byte)
  | jp_nc_a16 (nn : Word)
  | call_nc_a16 (nn : Word)
  | sub_d8 (n : Byte)
  | jp_c_a16 (nn : Word)
  | call_c_a16 (nn : Word)
  | sbc_a_d8 (n : Byte)
  | ldh_atA8_a (n : Byte)
  | and_d8 (n : Byte)
  | add_sp_e8 (e : Byte)
  | ld_atA16_a (nn : Word)
  | xor_d8 (n : Byte)
  | ldh_a_atA8 (n : Byte)
  | or_d8 (n : Byte)
  | ld_hl_sp_e8 (e : Byte)
  | ld_a_atA16 (nn : Word)
  | cp_d8 (n : Byte)
  -- base row 0x, the rows without operand bytes (R406)
  | nop
  | ld_atBC_a
  | inc_bc
  | inc_b
  | dec_b
  | rlca
  | add_hl_bc
  | ld_a_atBC
  | dec_bc
  | inc_c
  | dec_c
  | rrca
  -- base row 1x, the rows without operand bytes (R406)
  | ld_atDE_a
  | inc_de
  | inc_d
  | dec_d
  | rla
  | add_hl_de
  | ld_a_atDE
  | dec_de
  | inc_e
  | dec_e
  | rra
  -- base row 2x, the rows without operand bytes (R406)
  | ld_atHLi_a
  | inc_hl
  | inc_h
  | dec_h
  | daa
  | add_hl_hl
  | ld_a_atHLi
  | dec_hl
  | inc_l
  | dec_l
  | cpl
  -- base row 3x, the rows without operand bytes (R406)
  | ld_atHLd_a
  | inc_sp
  | inc_atHL
  | dec_atHL
  | scf
  | add_hl_sp
  | ld_a_atHLd
  | dec_sp
  | inc_a
  | dec_a
  | ccf
  -- base row 4x, the rows without operand bytes (R406)
  | ld_b_b
  | ld_b_c
  | ld_b_d
  | ld_b_e
  | ld_b_h
  | ld_b_l
  | ld_b_atHL
  | ld_b_a
  | ld_c_b
  | ld_c_c
  | ld_c_d
  | ld_c_e
  | ld_c_h
  | ld_c_l
  | ld_c_atHL
  | ld_c_a
  -- base row 5x, the rows without operand bytes (R406)
  | ld_d_b
  | ld_d_c
  | ld_d_d
  | ld_d_e
  | ld_d_h
  | ld_d_l
  | ld_d_atHL
  | ld_d_a
  | ld_e_b
  | ld_e_c
  | ld_e_d
  | ld_e_e
  | ld_e_h
  | ld_e_l
  | ld_e_atHL
  | ld_e_a
  -- base row 6x, the rows without operand bytes (R406)
  | ld_h_b
  | ld_h_c
  | ld_h_d
  | ld_h_e
  | ld_h_h
  | ld_h_l
  | ld_h_atHL
  | ld_h_a
  | ld_l_b
  | ld_l_c
  | ld_l_d
  | ld_l_e
  | ld_l_h
  | ld_l_l
  | ld_l_atHL
  | ld_l_a
  -- base row 7x, the rows without operand bytes (R406)
  | ld_atHL_b
  | ld_atHL_c
  | ld_atHL_d
  | ld_atHL_e
  | ld_atHL_h
  | ld_atHL_l
  | halt
  | ld_atHL_a
  | ld_a_b
  | ld_a_c
  | ld_a_d
  | ld_a_e
  | ld_a_h
  | ld_a_l
  | ld_a_atHL
  | ld_a_a
  -- base row 8x, the rows without operand bytes (R406)
  | add_a_b
  | add_a_c
  | add_a_d
  | add_a_e
  | add_a_h
  | add_a_l
  | add_a_atHL
  | add_a_a
  | adc_a_b
  | adc_a_c
  | adc_a_d
  | adc_a_e
  | adc_a_h
  | adc_a_l
  | adc_a_atHL
  | adc_a_a
  -- base row 9x, the rows without operand bytes (R406)
  | sub_b
  | sub_c
  | sub_d
  | sub_e
  | sub_h
  | sub_l
  | sub_atHL
  | sub_a
  | sbc_a_b
  | sbc_a_c
  | sbc_a_d
  | sbc_a_e
  | sbc_a_h
  | sbc_a_l
  | sbc_a_atHL
  | sbc_a_a
  -- base row Ax, the rows without operand bytes (R406)
  | and_b
  | and_c
  | and_d
  | and_e
  | and_h
  | and_l
  | and_atHL
  | and_a
  | xor_b
  | xor_c
  | xor_d
  | xor_e
  | xor_h
  | xor_l
  | xor_atHL
  | xor_a
  -- base row Bx, the rows without operand bytes (R406)
  | or_b
  | or_c
  | or_d
  | or_e
  | or_h
  | or_l
  | or_atHL
  | or_a
  | cp_b
  | cp_c
  | cp_d
  | cp_e
  | cp_h
  | cp_l
  | cp_atHL
  | cp_a
  -- base row Cx, the rows without operand bytes (R406)
  | ret_nz
  | pop_bc
  | push_bc
  | rst_00h
  | ret_z
  | ret
  | rst_08h
  -- base row Dx, the rows without operand bytes (R406)
  | ret_nc
  | pop_de
  | illegal_d3
  | push_de
  | rst_10h
  | ret_c
  | reti
  | illegal_db
  | illegal_dd
  | rst_18h
  -- base row Ex, the rows without operand bytes (R406)
  | pop_hl
  | ldh_atC_a
  | illegal_e3
  | illegal_e4
  | push_hl
  | rst_20h
  | jp_hl
  | illegal_eb
  | illegal_ec
  | illegal_ed
  | rst_28h
  -- base row Fx, the rows without operand bytes (R406)
  | pop_af
  | ldh_a_atC
  | di
  | illegal_f4
  | push_af
  | rst_30h
  | ld_sp_hl
  | ei
  | illegal_fc
  | illegal_fd
  | rst_38h
  -- CB row 0x (R407)
  | rlc_b
  | rlc_c
  | rlc_d
  | rlc_e
  | rlc_h
  | rlc_l
  | rlc_atHL
  | rlc_a
  | rrc_b
  | rrc_c
  | rrc_d
  | rrc_e
  | rrc_h
  | rrc_l
  | rrc_atHL
  | rrc_a
  -- CB row 1x (R407)
  | rl_b
  | rl_c
  | rl_d
  | rl_e
  | rl_h
  | rl_l
  | rl_atHL
  | rl_a
  | rr_b
  | rr_c
  | rr_d
  | rr_e
  | rr_h
  | rr_l
  | rr_atHL
  | rr_a
  -- CB row 2x (R407)
  | sla_b
  | sla_c
  | sla_d
  | sla_e
  | sla_h
  | sla_l
  | sla_atHL
  | sla_a
  | sra_b
  | sra_c
  | sra_d
  | sra_e
  | sra_h
  | sra_l
  | sra_atHL
  | sra_a
  -- CB row 3x (R407)
  | swap_b
  | swap_c
  | swap_d
  | swap_e
  | swap_h
  | swap_l
  | swap_atHL
  | swap_a
  | srl_b
  | srl_c
  | srl_d
  | srl_e
  | srl_h
  | srl_l
  | srl_atHL
  | srl_a
  -- CB row 4x (R407)
  | bit_0_b
  | bit_0_c
  | bit_0_d
  | bit_0_e
  | bit_0_h
  | bit_0_l
  | bit_0_atHL
  | bit_0_a
  | bit_1_b
  | bit_1_c
  | bit_1_d
  | bit_1_e
  | bit_1_h
  | bit_1_l
  | bit_1_atHL
  | bit_1_a
  -- CB row 5x (R407)
  | bit_2_b
  | bit_2_c
  | bit_2_d
  | bit_2_e
  | bit_2_h
  | bit_2_l
  | bit_2_atHL
  | bit_2_a
  | bit_3_b
  | bit_3_c
  | bit_3_d
  | bit_3_e
  | bit_3_h
  | bit_3_l
  | bit_3_atHL
  | bit_3_a
  -- CB row 6x (R407)
  | bit_4_b
  | bit_4_c
  | bit_4_d
  | bit_4_e
  | bit_4_h
  | bit_4_l
  | bit_4_atHL
  | bit_4_a
  | bit_5_b
  | bit_5_c
  | bit_5_d
  | bit_5_e
  | bit_5_h
  | bit_5_l
  | bit_5_atHL
  | bit_5_a
  -- CB row 7x (R407)
  | bit_6_b
  | bit_6_c
  | bit_6_d
  | bit_6_e
  | bit_6_h
  | bit_6_l
  | bit_6_atHL
  | bit_6_a
  | bit_7_b
  | bit_7_c
  | bit_7_d
  | bit_7_e
  | bit_7_h
  | bit_7_l
  | bit_7_atHL
  | bit_7_a
  -- CB row 8x (R407)
  | res_0_b
  | res_0_c
  | res_0_d
  | res_0_e
  | res_0_h
  | res_0_l
  | res_0_atHL
  | res_0_a
  | res_1_b
  | res_1_c
  | res_1_d
  | res_1_e
  | res_1_h
  | res_1_l
  | res_1_atHL
  | res_1_a
  -- CB row 9x (R407)
  | res_2_b
  | res_2_c
  | res_2_d
  | res_2_e
  | res_2_h
  | res_2_l
  | res_2_atHL
  | res_2_a
  | res_3_b
  | res_3_c
  | res_3_d
  | res_3_e
  | res_3_h
  | res_3_l
  | res_3_atHL
  | res_3_a
  -- CB row Ax (R407)
  | res_4_b
  | res_4_c
  | res_4_d
  | res_4_e
  | res_4_h
  | res_4_l
  | res_4_atHL
  | res_4_a
  | res_5_b
  | res_5_c
  | res_5_d
  | res_5_e
  | res_5_h
  | res_5_l
  | res_5_atHL
  | res_5_a
  -- CB row Bx (R407)
  | res_6_b
  | res_6_c
  | res_6_d
  | res_6_e
  | res_6_h
  | res_6_l
  | res_6_atHL
  | res_6_a
  | res_7_b
  | res_7_c
  | res_7_d
  | res_7_e
  | res_7_h
  | res_7_l
  | res_7_atHL
  | res_7_a
  -- CB row Cx (R407)
  | set_0_b
  | set_0_c
  | set_0_d
  | set_0_e
  | set_0_h
  | set_0_l
  | set_0_atHL
  | set_0_a
  | set_1_b
  | set_1_c
  | set_1_d
  | set_1_e
  | set_1_h
  | set_1_l
  | set_1_atHL
  | set_1_a
  -- CB row Dx (R407)
  | set_2_b
  | set_2_c
  | set_2_d
  | set_2_e
  | set_2_h
  | set_2_l
  | set_2_atHL
  | set_2_a
  | set_3_b
  | set_3_c
  | set_3_d
  | set_3_e
  | set_3_h
  | set_3_l
  | set_3_atHL
  | set_3_a
  -- CB row Ex (R407)
  | set_4_b
  | set_4_c
  | set_4_d
  | set_4_e
  | set_4_h
  | set_4_l
  | set_4_atHL
  | set_4_a
  | set_5_b
  | set_5_c
  | set_5_d
  | set_5_e
  | set_5_h
  | set_5_l
  | set_5_atHL
  | set_5_a
  -- CB row Fx (R407)
  | set_6_b
  | set_6_c
  | set_6_d
  | set_6_e
  | set_6_h
  | set_6_l
  | set_6_atHL
  | set_6_a
  | set_7_b
  | set_7_c
  | set_7_d
  | set_7_e
  | set_7_h
  | set_7_l
  | set_7_atHL
  | set_7_a
deriving DecidableEq, Repr

namespace Instr

/-- x = 1 of R406: LD r,r' (R501). -/
def ldRR : R8 → R8 → Instr
  | .b, .b => .ld_b_b | .b, .c => .ld_b_c | .b, .d => .ld_b_d | .b, .e => .ld_b_e | .b, .h => .ld_b_h | .b, .l => .ld_b_l | .b, .a => .ld_b_a
  | .c, .b => .ld_c_b | .c, .c => .ld_c_c | .c, .d => .ld_c_d | .c, .e => .ld_c_e | .c, .h => .ld_c_h | .c, .l => .ld_c_l | .c, .a => .ld_c_a
  | .d, .b => .ld_d_b | .d, .c => .ld_d_c | .d, .d => .ld_d_d | .d, .e => .ld_d_e | .d, .h => .ld_d_h | .d, .l => .ld_d_l | .d, .a => .ld_d_a
  | .e, .b => .ld_e_b | .e, .c => .ld_e_c | .e, .d => .ld_e_d | .e, .e => .ld_e_e | .e, .h => .ld_e_h | .e, .l => .ld_e_l | .e, .a => .ld_e_a
  | .h, .b => .ld_h_b | .h, .c => .ld_h_c | .h, .d => .ld_h_d | .h, .e => .ld_h_e | .h, .h => .ld_h_h | .h, .l => .ld_h_l | .h, .a => .ld_h_a
  | .l, .b => .ld_l_b | .l, .c => .ld_l_c | .l, .d => .ld_l_d | .l, .e => .ld_l_e | .l, .h => .ld_l_h | .l, .l => .ld_l_l | .l, .a => .ld_l_a
  | .a, .b => .ld_a_b | .a, .c => .ld_a_c | .a, .d => .ld_a_d | .a, .e => .ld_a_e | .a, .h => .ld_a_h | .a, .l => .ld_a_l | .a, .a => .ld_a_a

/-- x = 0, z = 6 of R406: LD r,d8 (R502). -/
def ldRd8 : R8 → Byte → Instr
  | .b => .ld_b_d8
  | .c => .ld_c_d8
  | .d => .ld_d_d8
  | .e => .ld_e_d8
  | .h => .ld_h_d8
  | .l => .ld_l_d8
  | .a => .ld_a_d8

/-- x = 1, z = 6 of R406: LD r,(HL) (R503). -/
def ldRatHL : R8 → Instr
  | .b => .ld_b_atHL
  | .c => .ld_c_atHL
  | .d => .ld_d_atHL
  | .e => .ld_e_atHL
  | .h => .ld_h_atHL
  | .l => .ld_l_atHL
  | .a => .ld_a_atHL

/-- x = 1, y = 6 of R406: LD (HL),r (R504). -/
def ldAtHLR : R8 → Instr
  | .b => .ld_atHL_b
  | .c => .ld_atHL_c
  | .d => .ld_atHL_d
  | .e => .ld_atHL_e
  | .h => .ld_atHL_h
  | .l => .ld_atHL_l
  | .a => .ld_atHL_a

/-- x = 0, z = 1, q = 0 of R406: LD rr,d16 (R551). -/
def ldRpD16 : Rp → Word → Instr
  | .bc => .ld_bc_d16
  | .de => .ld_de_d16
  | .hl => .ld_hl_d16
  | .sp => .ld_sp_d16

/-- x = 3, z = 5, q = 0 of R406: PUSH rr (R555). -/
def push : Rp2 → Instr
  | .bc => .push_bc
  | .de => .push_de
  | .hl => .push_hl
  | .af => .push_af

/-- x = 3, z = 1, q = 0 of R406: POP rr (R556) and POP AF (R557). -/
def pop : Rp2 → Instr
  | .bc => .pop_bc
  | .de => .pop_de
  | .hl => .pop_hl
  | .af => .pop_af

/-- x = 2 of R406: alu[y] r[z], z ≠ 6 (R610 to R631). -/
def aluR : AluOp → R8 → Instr
  | .add, .b => .add_a_b | .add, .c => .add_a_c | .add, .d => .add_a_d | .add, .e => .add_a_e | .add, .h => .add_a_h | .add, .l => .add_a_l | .add, .a => .add_a_a
  | .adc, .b => .adc_a_b | .adc, .c => .adc_a_c | .adc, .d => .adc_a_d | .adc, .e => .adc_a_e | .adc, .h => .adc_a_h | .adc, .l => .adc_a_l | .adc, .a => .adc_a_a
  | .sub, .b => .sub_b | .sub, .c => .sub_c | .sub, .d => .sub_d | .sub, .e => .sub_e | .sub, .h => .sub_h | .sub, .l => .sub_l | .sub, .a => .sub_a
  | .sbc, .b => .sbc_a_b | .sbc, .c => .sbc_a_c | .sbc, .d => .sbc_a_d | .sbc, .e => .sbc_a_e | .sbc, .h => .sbc_a_h | .sbc, .l => .sbc_a_l | .sbc, .a => .sbc_a_a
  | .and, .b => .and_b | .and, .c => .and_c | .and, .d => .and_d | .and, .e => .and_e | .and, .h => .and_h | .and, .l => .and_l | .and, .a => .and_a
  | .xor, .b => .xor_b | .xor, .c => .xor_c | .xor, .d => .xor_d | .xor, .e => .xor_e | .xor, .h => .xor_h | .xor, .l => .xor_l | .xor, .a => .xor_a
  | .or, .b => .or_b | .or, .c => .or_c | .or, .d => .or_d | .or, .e => .or_e | .or, .h => .or_h | .or, .l => .or_l | .or, .a => .or_a
  | .cp, .b => .cp_b | .cp, .c => .cp_c | .cp, .d => .cp_d | .cp, .e => .cp_e | .cp, .h => .cp_h | .cp, .l => .cp_l | .cp, .a => .cp_a

/-- x = 2, z = 6 of R406: alu[y] (HL) (R611 to R632). -/
def aluAtHL : AluOp → Instr
  | .add => .add_a_atHL
  | .adc => .adc_a_atHL
  | .sub => .sub_atHL
  | .sbc => .sbc_a_atHL
  | .and => .and_atHL
  | .xor => .xor_atHL
  | .or => .or_atHL
  | .cp => .cp_atHL

/-- x = 3, z = 6 of R406: alu[y] d8 (R612 to R633). -/
def aluD8 : AluOp → Byte → Instr
  | .add => .add_a_d8
  | .adc => .adc_a_d8
  | .sub => .sub_d8
  | .sbc => .sbc_a_d8
  | .and => .and_d8
  | .xor => .xor_d8
  | .or => .or_d8
  | .cp => .cp_d8

/-- x = 0, z = 4 of R406: INC r (R634). -/
def incR : R8 → Instr
  | .b => .inc_b
  | .c => .inc_c
  | .d => .inc_d
  | .e => .inc_e
  | .h => .inc_h
  | .l => .inc_l
  | .a => .inc_a

/-- x = 0, z = 5 of R406: DEC r (R636). -/
def decR : R8 → Instr
  | .b => .dec_b
  | .c => .dec_c
  | .d => .dec_d
  | .e => .dec_e
  | .h => .dec_h
  | .l => .dec_l
  | .a => .dec_a

/-- x = 0, z = 3, q = 0 of R406: INC rr (R651). -/
def incRp : Rp → Instr
  | .bc => .inc_bc
  | .de => .inc_de
  | .hl => .inc_hl
  | .sp => .inc_sp

/-- x = 0, z = 3, q = 1 of R406: DEC rr (R652). -/
def decRp : Rp → Instr
  | .bc => .dec_bc
  | .de => .dec_de
  | .hl => .dec_hl
  | .sp => .dec_sp

/-- x = 0, z = 1, q = 1 of R406: ADD HL,rr (R653). -/
def addHLRp : Rp → Instr
  | .bc => .add_hl_bc
  | .de => .add_hl_de
  | .hl => .add_hl_hl
  | .sp => .add_hl_sp

/-- JP cc,a16 (R752). -/
def jpCC : Cond → Word → Instr
  | .nz => .jp_nz_a16
  | .z => .jp_z_a16
  | .nc => .jp_nc_a16
  | .c => .jp_c_a16

/-- JR cc,e8 (R755). -/
def jrCC : Cond → Byte → Instr
  | .nz => .jr_nz_e8
  | .z => .jr_z_e8
  | .nc => .jr_nc_e8
  | .c => .jr_c_e8

/-- CALL cc,a16 (R757). -/
def callCC : Cond → Word → Instr
  | .nz => .call_nz_a16
  | .z => .call_z_a16
  | .nc => .call_nc_a16
  | .c => .call_c_a16

/-- RET cc (R759). -/
def retCC : Cond → Instr
  | .nz => .ret_nz
  | .z => .ret_z
  | .nc => .ret_nc
  | .c => .ret_c

/-- x = 3, z = 7 of R406: RST y*8 (R761). -/
def rst : RstVec → Instr
  | .t00 => .rst_00h
  | .t08 => .rst_08h
  | .t10 => .rst_10h
  | .t18 => .rst_18h
  | .t20 => .rst_20h
  | .t28 => .rst_28h
  | .t30 => .rst_30h
  | .t38 => .rst_38h

/-- The undefined opcodes (R408, R806). -/
def illegal : IllegalOp → Instr
  | .d3 => .illegal_d3
  | .db => .illegal_db
  | .dd => .illegal_dd
  | .e3 => .illegal_e3
  | .e4 => .illegal_e4
  | .eb => .illegal_eb
  | .ec => .illegal_ec
  | .ed => .illegal_ed
  | .f4 => .illegal_f4
  | .fc => .illegal_fc
  | .fd => .illegal_fd

/-- CB x = 0 of R407: rot[y] r[z], z ≠ 6 (R706 to R720). -/
def rotR : RotOp → R8 → Instr
  | .rlc, .b => .rlc_b | .rlc, .c => .rlc_c | .rlc, .d => .rlc_d | .rlc, .e => .rlc_e | .rlc, .h => .rlc_h | .rlc, .l => .rlc_l | .rlc, .a => .rlc_a
  | .rrc, .b => .rrc_b | .rrc, .c => .rrc_c | .rrc, .d => .rrc_d | .rrc, .e => .rrc_e | .rrc, .h => .rrc_h | .rrc, .l => .rrc_l | .rrc, .a => .rrc_a
  | .rl, .b => .rl_b | .rl, .c => .rl_c | .rl, .d => .rl_d | .rl, .e => .rl_e | .rl, .h => .rl_h | .rl, .l => .rl_l | .rl, .a => .rl_a
  | .rr, .b => .rr_b | .rr, .c => .rr_c | .rr, .d => .rr_d | .rr, .e => .rr_e | .rr, .h => .rr_h | .rr, .l => .rr_l | .rr, .a => .rr_a
  | .sla, .b => .sla_b | .sla, .c => .sla_c | .sla, .d => .sla_d | .sla, .e => .sla_e | .sla, .h => .sla_h | .sla, .l => .sla_l | .sla, .a => .sla_a
  | .sra, .b => .sra_b | .sra, .c => .sra_c | .sra, .d => .sra_d | .sra, .e => .sra_e | .sra, .h => .sra_h | .sra, .l => .sra_l | .sra, .a => .sra_a
  | .swap, .b => .swap_b | .swap, .c => .swap_c | .swap, .d => .swap_d | .swap, .e => .swap_e | .swap, .h => .swap_h | .swap, .l => .swap_l | .swap, .a => .swap_a
  | .srl, .b => .srl_b | .srl, .c => .srl_c | .srl, .d => .srl_d | .srl, .e => .srl_e | .srl, .h => .srl_h | .srl, .l => .srl_l | .srl, .a => .srl_a

/-- CB x = 0, z = 6 of R407: rot[y] (HL) (R707 to R721). -/
def rotAtHL : RotOp → Instr
  | .rlc => .rlc_atHL
  | .rrc => .rrc_atHL
  | .rl => .rl_atHL
  | .rr => .rr_atHL
  | .sla => .sla_atHL
  | .sra => .sra_atHL
  | .swap => .swap_atHL
  | .srl => .srl_atHL

/-- CB x = 1 of R407: BIT y,r[z], z ≠ 6 (R722). -/
def bitR : BitIx → R8 → Instr
  | .b0, .b => .bit_0_b | .b0, .c => .bit_0_c | .b0, .d => .bit_0_d | .b0, .e => .bit_0_e | .b0, .h => .bit_0_h | .b0, .l => .bit_0_l | .b0, .a => .bit_0_a
  | .b1, .b => .bit_1_b | .b1, .c => .bit_1_c | .b1, .d => .bit_1_d | .b1, .e => .bit_1_e | .b1, .h => .bit_1_h | .b1, .l => .bit_1_l | .b1, .a => .bit_1_a
  | .b2, .b => .bit_2_b | .b2, .c => .bit_2_c | .b2, .d => .bit_2_d | .b2, .e => .bit_2_e | .b2, .h => .bit_2_h | .b2, .l => .bit_2_l | .b2, .a => .bit_2_a
  | .b3, .b => .bit_3_b | .b3, .c => .bit_3_c | .b3, .d => .bit_3_d | .b3, .e => .bit_3_e | .b3, .h => .bit_3_h | .b3, .l => .bit_3_l | .b3, .a => .bit_3_a
  | .b4, .b => .bit_4_b | .b4, .c => .bit_4_c | .b4, .d => .bit_4_d | .b4, .e => .bit_4_e | .b4, .h => .bit_4_h | .b4, .l => .bit_4_l | .b4, .a => .bit_4_a
  | .b5, .b => .bit_5_b | .b5, .c => .bit_5_c | .b5, .d => .bit_5_d | .b5, .e => .bit_5_e | .b5, .h => .bit_5_h | .b5, .l => .bit_5_l | .b5, .a => .bit_5_a
  | .b6, .b => .bit_6_b | .b6, .c => .bit_6_c | .b6, .d => .bit_6_d | .b6, .e => .bit_6_e | .b6, .h => .bit_6_h | .b6, .l => .bit_6_l | .b6, .a => .bit_6_a
  | .b7, .b => .bit_7_b | .b7, .c => .bit_7_c | .b7, .d => .bit_7_d | .b7, .e => .bit_7_e | .b7, .h => .bit_7_h | .b7, .l => .bit_7_l | .b7, .a => .bit_7_a

/-- CB x = 1, z = 6 of R407: BIT y,(HL) (R723). -/
def bitAtHL : BitIx → Instr
  | .b0 => .bit_0_atHL
  | .b1 => .bit_1_atHL
  | .b2 => .bit_2_atHL
  | .b3 => .bit_3_atHL
  | .b4 => .bit_4_atHL
  | .b5 => .bit_5_atHL
  | .b6 => .bit_6_atHL
  | .b7 => .bit_7_atHL

/-- CB x = 2 of R407: RES y,r[z], z ≠ 6 (R724). -/
def resR : BitIx → R8 → Instr
  | .b0, .b => .res_0_b | .b0, .c => .res_0_c | .b0, .d => .res_0_d | .b0, .e => .res_0_e | .b0, .h => .res_0_h | .b0, .l => .res_0_l | .b0, .a => .res_0_a
  | .b1, .b => .res_1_b | .b1, .c => .res_1_c | .b1, .d => .res_1_d | .b1, .e => .res_1_e | .b1, .h => .res_1_h | .b1, .l => .res_1_l | .b1, .a => .res_1_a
  | .b2, .b => .res_2_b | .b2, .c => .res_2_c | .b2, .d => .res_2_d | .b2, .e => .res_2_e | .b2, .h => .res_2_h | .b2, .l => .res_2_l | .b2, .a => .res_2_a
  | .b3, .b => .res_3_b | .b3, .c => .res_3_c | .b3, .d => .res_3_d | .b3, .e => .res_3_e | .b3, .h => .res_3_h | .b3, .l => .res_3_l | .b3, .a => .res_3_a
  | .b4, .b => .res_4_b | .b4, .c => .res_4_c | .b4, .d => .res_4_d | .b4, .e => .res_4_e | .b4, .h => .res_4_h | .b4, .l => .res_4_l | .b4, .a => .res_4_a
  | .b5, .b => .res_5_b | .b5, .c => .res_5_c | .b5, .d => .res_5_d | .b5, .e => .res_5_e | .b5, .h => .res_5_h | .b5, .l => .res_5_l | .b5, .a => .res_5_a
  | .b6, .b => .res_6_b | .b6, .c => .res_6_c | .b6, .d => .res_6_d | .b6, .e => .res_6_e | .b6, .h => .res_6_h | .b6, .l => .res_6_l | .b6, .a => .res_6_a
  | .b7, .b => .res_7_b | .b7, .c => .res_7_c | .b7, .d => .res_7_d | .b7, .e => .res_7_e | .b7, .h => .res_7_h | .b7, .l => .res_7_l | .b7, .a => .res_7_a

/-- CB x = 2, z = 6 of R407: RES y,(HL) (R725). -/
def resAtHL : BitIx → Instr
  | .b0 => .res_0_atHL
  | .b1 => .res_1_atHL
  | .b2 => .res_2_atHL
  | .b3 => .res_3_atHL
  | .b4 => .res_4_atHL
  | .b5 => .res_5_atHL
  | .b6 => .res_6_atHL
  | .b7 => .res_7_atHL

/-- CB x = 3 of R407: SET y,r[z], z ≠ 6 (R726). -/
def setR : BitIx → R8 → Instr
  | .b0, .b => .set_0_b | .b0, .c => .set_0_c | .b0, .d => .set_0_d | .b0, .e => .set_0_e | .b0, .h => .set_0_h | .b0, .l => .set_0_l | .b0, .a => .set_0_a
  | .b1, .b => .set_1_b | .b1, .c => .set_1_c | .b1, .d => .set_1_d | .b1, .e => .set_1_e | .b1, .h => .set_1_h | .b1, .l => .set_1_l | .b1, .a => .set_1_a
  | .b2, .b => .set_2_b | .b2, .c => .set_2_c | .b2, .d => .set_2_d | .b2, .e => .set_2_e | .b2, .h => .set_2_h | .b2, .l => .set_2_l | .b2, .a => .set_2_a
  | .b3, .b => .set_3_b | .b3, .c => .set_3_c | .b3, .d => .set_3_d | .b3, .e => .set_3_e | .b3, .h => .set_3_h | .b3, .l => .set_3_l | .b3, .a => .set_3_a
  | .b4, .b => .set_4_b | .b4, .c => .set_4_c | .b4, .d => .set_4_d | .b4, .e => .set_4_e | .b4, .h => .set_4_h | .b4, .l => .set_4_l | .b4, .a => .set_4_a
  | .b5, .b => .set_5_b | .b5, .c => .set_5_c | .b5, .d => .set_5_d | .b5, .e => .set_5_e | .b5, .h => .set_5_h | .b5, .l => .set_5_l | .b5, .a => .set_5_a
  | .b6, .b => .set_6_b | .b6, .c => .set_6_c | .b6, .d => .set_6_d | .b6, .e => .set_6_e | .b6, .h => .set_6_h | .b6, .l => .set_6_l | .b6, .a => .set_6_a
  | .b7, .b => .set_7_b | .b7, .c => .set_7_c | .b7, .d => .set_7_d | .b7, .e => .set_7_e | .b7, .h => .set_7_h | .b7, .l => .set_7_l | .b7, .a => .set_7_a

/-- CB x = 3, z = 6 of R407: SET y,(HL) (R727). -/
def setAtHL : BitIx → Instr
  | .b0 => .set_0_atHL
  | .b1 => .set_1_atHL
  | .b2 => .set_2_atHL
  | .b3 => .set_3_atHL
  | .b4 => .set_4_atHL
  | .b5 => .set_5_atHL
  | .b6 => .set_6_atHL
  | .b7 => .set_7_atHL

end Instr

end Sys2Proof
end

