-- ==== Sys2Proof/WellFormed.lean ====
section
/-! DEFINITION. Which terms of `Instr` are instructions of the machine.  Every operand is a bit vector of exactly
the width the encoding gives it (R401), so no operand value is out of range; what is left is the
prefix row. -/

namespace Sys2Proof

/-- 30_encoding R410: "0xCB is not an instruction by itself.  The prefix and its second byte form one
instruction", which is the CB row's constructor; a bare prefix row is not well formed. -/
def Instr.isBarePrefix : Instr → Bool
  | .prefix_cb _ => true
  | _ => false

/-- An instruction of the machine: every term but a bare prefix. -/
def Instr.wf (i : Instr) : Bool := !i.isBarePrefix

end Sys2Proof
end

