-- ==== Sys2Proof/Decode.lean ====
section
/-! DEFINITION. The decoder and the encoder (30_encoding R400 to R411).  The opcode maps of R406 and R407 stand
as tables of sixteen rows of sixteen entries, read by the opcode byte; the encoder is written from the
same maps the other way.  Byte order is decided here: a 16-bit immediate is little-endian (R403). -/

namespace Sys2Proof

/-- The word `hi:lo` (R17). -/
def joinWord (hi lo : Byte) : Word := hi ++ lo

/-- The low byte `v[7:0]`. -/
def lowByte (v : Word) : Byte := v.setWidth 8

/-- The high byte `v[15:8]`. -/
def highByte (v : Word) : Byte := (v >>> 8).setWidth 8

/-- Why a list of bytes does not decode. -/
inductive DecodeError where
  /-- The list ends before the instruction does. -/
  | truncated
  /-- The base table has no row for the byte; no byte is without one (test_table_sizes). -/
  | noRow (op : Byte)
deriving DecidableEq, Repr

/-- One entry of the base opcode map: what follows the opcode byte (R401). -/
inductive OpRow where
  /-- No operand byte: the formats op8 and illegal. -/
  | op (i : Instr)
  /-- One operand byte: op8_d8, op8_a8, op8_e8 and op8_stop. -/
  | imm8 (f : Byte → Instr)
  /-- Two operand bytes, low byte first: op8_d16 and op8_a16. -/
  | imm16 (f : Word → Instr)
  /-- The prefix 0xCB: the CB table names the instruction (R405, R410). -/
  | cbPrefix

namespace Decode

/-- Row 0x of the base opcode map (R406). -/
def base0 : List OpRow := [
  .op .nop, .imm16 .ld_bc_d16, .op .ld_atBC_a, .op .inc_bc,
  .op .inc_b, .op .dec_b, .imm8 .ld_b_d8, .op .rlca,
  .imm16 .ld_atA16_sp, .op .add_hl_bc, .op .ld_a_atBC, .op .dec_bc,
  .op .inc_c, .op .dec_c, .imm8 .ld_c_d8, .op .rrca]

/-- Row 1x of the base opcode map (R406). -/
def base1 : List OpRow := [
  .imm8 .stop, .imm16 .ld_de_d16, .op .ld_atDE_a, .op .inc_de,
  .op .inc_d, .op .dec_d, .imm8 .ld_d_d8, .op .rla,
  .imm8 .jr_e8, .op .add_hl_de, .op .ld_a_atDE, .op .dec_de,
  .op .inc_e, .op .dec_e, .imm8 .ld_e_d8, .op .rra]

/-- Row 2x of the base opcode map (R406). -/
def base2 : List OpRow := [
  .imm8 .jr_nz_e8, .imm16 .ld_hl_d16, .op .ld_atHLi_a, .op .inc_hl,
  .op .inc_h, .op .dec_h, .imm8 .ld_h_d8, .op .daa,
  .imm8 .jr_z_e8, .op .add_hl_hl, .op .ld_a_atHLi, .op .dec_hl,
  .op .inc_l, .op .dec_l, .imm8 .ld_l_d8, .op .cpl]

/-- Row 3x of the base opcode map (R406). -/
def base3 : List OpRow := [
  .imm8 .jr_nc_e8, .imm16 .ld_sp_d16, .op .ld_atHLd_a, .op .inc_sp,
  .op .inc_atHL, .op .dec_atHL, .imm8 .ld_atHL_d8, .op .scf,
  .imm8 .jr_c_e8, .op .add_hl_sp, .op .ld_a_atHLd, .op .dec_sp,
  .op .inc_a, .op .dec_a, .imm8 .ld_a_d8, .op .ccf]

/-- Row 4x of the base opcode map (R406). -/
def base4 : List OpRow := [
  .op .ld_b_b, .op .ld_b_c, .op .ld_b_d, .op .ld_b_e,
  .op .ld_b_h, .op .ld_b_l, .op .ld_b_atHL, .op .ld_b_a,
  .op .ld_c_b, .op .ld_c_c, .op .ld_c_d, .op .ld_c_e,
  .op .ld_c_h, .op .ld_c_l, .op .ld_c_atHL, .op .ld_c_a]

/-- Row 5x of the base opcode map (R406). -/
def base5 : List OpRow := [
  .op .ld_d_b, .op .ld_d_c, .op .ld_d_d, .op .ld_d_e,
  .op .ld_d_h, .op .ld_d_l, .op .ld_d_atHL, .op .ld_d_a,
  .op .ld_e_b, .op .ld_e_c, .op .ld_e_d, .op .ld_e_e,
  .op .ld_e_h, .op .ld_e_l, .op .ld_e_atHL, .op .ld_e_a]

/-- Row 6x of the base opcode map (R406). -/
def base6 : List OpRow := [
  .op .ld_h_b, .op .ld_h_c, .op .ld_h_d, .op .ld_h_e,
  .op .ld_h_h, .op .ld_h_l, .op .ld_h_atHL, .op .ld_h_a,
  .op .ld_l_b, .op .ld_l_c, .op .ld_l_d, .op .ld_l_e,
  .op .ld_l_h, .op .ld_l_l, .op .ld_l_atHL, .op .ld_l_a]

/-- Row 7x of the base opcode map (R406). -/
def base7 : List OpRow := [
  .op .ld_atHL_b, .op .ld_atHL_c, .op .ld_atHL_d, .op .ld_atHL_e,
  .op .ld_atHL_h, .op .ld_atHL_l, .op .halt, .op .ld_atHL_a,
  .op .ld_a_b, .op .ld_a_c, .op .ld_a_d, .op .ld_a_e,
  .op .ld_a_h, .op .ld_a_l, .op .ld_a_atHL, .op .ld_a_a]

/-- Row 8x of the base opcode map (R406). -/
def base8 : List OpRow := [
  .op .add_a_b, .op .add_a_c, .op .add_a_d, .op .add_a_e,
  .op .add_a_h, .op .add_a_l, .op .add_a_atHL, .op .add_a_a,
  .op .adc_a_b, .op .adc_a_c, .op .adc_a_d, .op .adc_a_e,
  .op .adc_a_h, .op .adc_a_l, .op .adc_a_atHL, .op .adc_a_a]

/-- Row 9x of the base opcode map (R406). -/
def base9 : List OpRow := [
  .op .sub_b, .op .sub_c, .op .sub_d, .op .sub_e,
  .op .sub_h, .op .sub_l, .op .sub_atHL, .op .sub_a,
  .op .sbc_a_b, .op .sbc_a_c, .op .sbc_a_d, .op .sbc_a_e,
  .op .sbc_a_h, .op .sbc_a_l, .op .sbc_a_atHL, .op .sbc_a_a]

/-- Row Ax of the base opcode map (R406). -/
def baseA : List OpRow := [
  .op .and_b, .op .and_c, .op .and_d, .op .and_e,
  .op .and_h, .op .and_l, .op .and_atHL, .op .and_a,
  .op .xor_b, .op .xor_c, .op .xor_d, .op .xor_e,
  .op .xor_h, .op .xor_l, .op .xor_atHL, .op .xor_a]

/-- Row Bx of the base opcode map (R406). -/
def baseB : List OpRow := [
  .op .or_b, .op .or_c, .op .or_d, .op .or_e,
  .op .or_h, .op .or_l, .op .or_atHL, .op .or_a,
  .op .cp_b, .op .cp_c, .op .cp_d, .op .cp_e,
  .op .cp_h, .op .cp_l, .op .cp_atHL, .op .cp_a]

/-- Row Cx of the base opcode map (R406). -/
def baseC : List OpRow := [
  .op .ret_nz, .op .pop_bc, .imm16 .jp_nz_a16, .imm16 .jp_a16,
  .imm16 .call_nz_a16, .op .push_bc, .imm8 .add_a_d8, .op .rst_00h,
  .op .ret_z, .op .ret, .imm16 .jp_z_a16, .cbPrefix,
  .imm16 .call_z_a16, .imm16 .call_a16, .imm8 .adc_a_d8, .op .rst_08h]

/-- Row Dx of the base opcode map (R406). -/
def baseD : List OpRow := [
  .op .ret_nc, .op .pop_de, .imm16 .jp_nc_a16, .op .illegal_d3,
  .imm16 .call_nc_a16, .op .push_de, .imm8 .sub_d8, .op .rst_10h,
  .op .ret_c, .op .reti, .imm16 .jp_c_a16, .op .illegal_db,
  .imm16 .call_c_a16, .op .illegal_dd, .imm8 .sbc_a_d8, .op .rst_18h]

/-- Row Ex of the base opcode map (R406). -/
def baseE : List OpRow := [
  .imm8 .ldh_atA8_a, .op .pop_hl, .op .ldh_atC_a, .op .illegal_e3,
  .op .illegal_e4, .op .push_hl, .imm8 .and_d8, .op .rst_20h,
  .imm8 .add_sp_e8, .op .jp_hl, .imm16 .ld_atA16_a, .op .illegal_eb,
  .op .illegal_ec, .op .illegal_ed, .imm8 .xor_d8, .op .rst_28h]

/-- Row Fx of the base opcode map (R406). -/
def baseF : List OpRow := [
  .imm8 .ldh_a_atA8, .op .pop_af, .op .ldh_a_atC, .op .di,
  .op .illegal_f4, .op .push_af, .imm8 .or_d8, .op .rst_30h,
  .imm8 .ld_hl_sp_e8, .op .ld_sp_hl, .imm16 .ld_a_atA16, .op .ei,
  .op .illegal_fc, .op .illegal_fd, .imm8 .cp_d8, .op .rst_38h]

/-- The base opcode map, indexed by the first byte (R406). -/
def baseTable : List OpRow :=
  base0 ++ base1 ++ base2 ++ base3 ++ base4 ++ base5 ++ base6 ++ base7 ++
  base8 ++ base9 ++ baseA ++ baseB ++ baseC ++ baseD ++ baseE ++ baseF

/-- Row 0x of the CB map (R407). -/
def cb0 : List Instr := [
  .rlc_b, .rlc_c, .rlc_d, .rlc_e, .rlc_h, .rlc_l, .rlc_atHL, .rlc_a,
  .rrc_b, .rrc_c, .rrc_d, .rrc_e, .rrc_h, .rrc_l, .rrc_atHL, .rrc_a]

/-- Row 1x of the CB map (R407). -/
def cb1 : List Instr := [
  .rl_b, .rl_c, .rl_d, .rl_e, .rl_h, .rl_l, .rl_atHL, .rl_a,
  .rr_b, .rr_c, .rr_d, .rr_e, .rr_h, .rr_l, .rr_atHL, .rr_a]

/-- Row 2x of the CB map (R407). -/
def cb2 : List Instr := [
  .sla_b, .sla_c, .sla_d, .sla_e, .sla_h, .sla_l, .sla_atHL, .sla_a,
  .sra_b, .sra_c, .sra_d, .sra_e, .sra_h, .sra_l, .sra_atHL, .sra_a]

/-- Row 3x of the CB map (R407). -/
def cb3 : List Instr := [
  .swap_b, .swap_c, .swap_d, .swap_e, .swap_h, .swap_l, .swap_atHL, .swap_a,
  .srl_b, .srl_c, .srl_d, .srl_e, .srl_h, .srl_l, .srl_atHL, .srl_a]

/-- Row 4x of the CB map (R407). -/
def cb4 : List Instr := [
  .bit_0_b, .bit_0_c, .bit_0_d, .bit_0_e, .bit_0_h, .bit_0_l, .bit_0_atHL, .bit_0_a,
  .bit_1_b, .bit_1_c, .bit_1_d, .bit_1_e, .bit_1_h, .bit_1_l, .bit_1_atHL, .bit_1_a]

/-- Row 5x of the CB map (R407). -/
def cb5 : List Instr := [
  .bit_2_b, .bit_2_c, .bit_2_d, .bit_2_e, .bit_2_h, .bit_2_l, .bit_2_atHL, .bit_2_a,
  .bit_3_b, .bit_3_c, .bit_3_d, .bit_3_e, .bit_3_h, .bit_3_l, .bit_3_atHL, .bit_3_a]

/-- Row 6x of the CB map (R407). -/
def cb6 : List Instr := [
  .bit_4_b, .bit_4_c, .bit_4_d, .bit_4_e, .bit_4_h, .bit_4_l, .bit_4_atHL, .bit_4_a,
  .bit_5_b, .bit_5_c, .bit_5_d, .bit_5_e, .bit_5_h, .bit_5_l, .bit_5_atHL, .bit_5_a]

/-- Row 7x of the CB map (R407). -/
def cb7 : List Instr := [
  .bit_6_b, .bit_6_c, .bit_6_d, .bit_6_e, .bit_6_h, .bit_6_l, .bit_6_atHL, .bit_6_a,
  .bit_7_b, .bit_7_c, .bit_7_d, .bit_7_e, .bit_7_h, .bit_7_l, .bit_7_atHL, .bit_7_a]

/-- Row 8x of the CB map (R407). -/
def cb8 : List Instr := [
  .res_0_b, .res_0_c, .res_0_d, .res_0_e, .res_0_h, .res_0_l, .res_0_atHL, .res_0_a,
  .res_1_b, .res_1_c, .res_1_d, .res_1_e, .res_1_h, .res_1_l, .res_1_atHL, .res_1_a]

/-- Row 9x of the CB map (R407). -/
def cb9 : List Instr := [
  .res_2_b, .res_2_c, .res_2_d, .res_2_e, .res_2_h, .res_2_l, .res_2_atHL, .res_2_a,
  .res_3_b, .res_3_c, .res_3_d, .res_3_e, .res_3_h, .res_3_l, .res_3_atHL, .res_3_a]

/-- Row Ax of the CB map (R407). -/
def cbA : List Instr := [
  .res_4_b, .res_4_c, .res_4_d, .res_4_e, .res_4_h, .res_4_l, .res_4_atHL, .res_4_a,
  .res_5_b, .res_5_c, .res_5_d, .res_5_e, .res_5_h, .res_5_l, .res_5_atHL, .res_5_a]

/-- Row Bx of the CB map (R407). -/
def cbB : List Instr := [
  .res_6_b, .res_6_c, .res_6_d, .res_6_e, .res_6_h, .res_6_l, .res_6_atHL, .res_6_a,
  .res_7_b, .res_7_c, .res_7_d, .res_7_e, .res_7_h, .res_7_l, .res_7_atHL, .res_7_a]

/-- Row Cx of the CB map (R407). -/
def cbC : List Instr := [
  .set_0_b, .set_0_c, .set_0_d, .set_0_e, .set_0_h, .set_0_l, .set_0_atHL, .set_0_a,
  .set_1_b, .set_1_c, .set_1_d, .set_1_e, .set_1_h, .set_1_l, .set_1_atHL, .set_1_a]

/-- Row Dx of the CB map (R407). -/
def cbD : List Instr := [
  .set_2_b, .set_2_c, .set_2_d, .set_2_e, .set_2_h, .set_2_l, .set_2_atHL, .set_2_a,
  .set_3_b, .set_3_c, .set_3_d, .set_3_e, .set_3_h, .set_3_l, .set_3_atHL, .set_3_a]

/-- Row Ex of the CB map (R407). -/
def cbE : List Instr := [
  .set_4_b, .set_4_c, .set_4_d, .set_4_e, .set_4_h, .set_4_l, .set_4_atHL, .set_4_a,
  .set_5_b, .set_5_c, .set_5_d, .set_5_e, .set_5_h, .set_5_l, .set_5_atHL, .set_5_a]

/-- Row Fx of the CB map (R407). -/
def cbF : List Instr := [
  .set_6_b, .set_6_c, .set_6_d, .set_6_e, .set_6_h, .set_6_l, .set_6_atHL, .set_6_a,
  .set_7_b, .set_7_c, .set_7_d, .set_7_e, .set_7_h, .set_7_l, .set_7_atHL, .set_7_a]

/-- The CB map, indexed by the second byte (R407). -/
def cbTable : List Instr :=
  cb0 ++ cb1 ++ cb2 ++ cb3 ++ cb4 ++ cb5 ++ cb6 ++ cb7 ++
  cb8 ++ cb9 ++ cbA ++ cbB ++ cbC ++ cbD ++ cbE ++ cbF

end Decode

/-- The decoder of R405: total on every list of bytes, it gives the instruction at the head of the list and the
bytes after it, or says why there is none. -/
def decode : List Byte → Except DecodeError (Instr × List Byte)
  | [] => .error .truncated
  | o :: rest =>
    match Decode.baseTable[o.toNat]? with
    | none => .error (.noRow o)
    | some (.op i) => .ok (i, rest)
    | some (.imm8 f) =>
      match rest with
      | n :: rest => .ok (f n, rest)
      | [] => .error .truncated
    | some (.imm16 f) =>
      match rest with
      | lo :: hi :: rest => .ok (f (joinWord hi lo), rest)
      | _ => .error .truncated
    | some .cbPrefix =>
      match rest with
      | c :: rest =>
        match Decode.cbTable[c.toNat]? with
        | some i => .ok (i, rest)
        | none => .error (.noRow c)
      | [] => .error .truncated

/-- The bytes of an instruction in fetch order, from the opcode maps (R401, R406, R407).  A 16-bit
immediate is stored low byte first (R403). -/
def encode (i : Instr) : List Byte :=
  match i with
  | .nop => [0x00]
  | .ld_bc_d16 nn => [0x01, lowByte nn, highByte nn]
  | .ld_atBC_a => [0x02]
  | .inc_bc => [0x03]
  | .inc_b => [0x04]
  | .dec_b => [0x05]
  | .ld_b_d8 n => [0x06, n]
  | .rlca => [0x07]
  | .ld_atA16_sp nn => [0x08, lowByte nn, highByte nn]
  | .add_hl_bc => [0x09]
  | .ld_a_atBC => [0x0A]
  | .dec_bc => [0x0B]
  | .inc_c => [0x0C]
  | .dec_c => [0x0D]
  | .ld_c_d8 n => [0x0E, n]
  | .rrca => [0x0F]
  | .stop n => [0x10, n]
  | .ld_de_d16 nn => [0x11, lowByte nn, highByte nn]
  | .ld_atDE_a => [0x12]
  | .inc_de => [0x13]
  | .inc_d => [0x14]
  | .dec_d => [0x15]
  | .ld_d_d8 n => [0x16, n]
  | .rla => [0x17]
  | .jr_e8 e => [0x18, e]
  | .add_hl_de => [0x19]
  | .ld_a_atDE => [0x1A]
  | .dec_de => [0x1B]
  | .inc_e => [0x1C]
  | .dec_e => [0x1D]
  | .ld_e_d8 n => [0x1E, n]
  | .rra => [0x1F]
  | .jr_nz_e8 e => [0x20, e]
  | .ld_hl_d16 nn => [0x21, lowByte nn, highByte nn]
  | .ld_atHLi_a => [0x22]
  | .inc_hl => [0x23]
  | .inc_h => [0x24]
  | .dec_h => [0x25]
  | .ld_h_d8 n => [0x26, n]
  | .daa => [0x27]
  | .jr_z_e8 e => [0x28, e]
  | .add_hl_hl => [0x29]
  | .ld_a_atHLi => [0x2A]
  | .dec_hl => [0x2B]
  | .inc_l => [0x2C]
  | .dec_l => [0x2D]
  | .ld_l_d8 n => [0x2E, n]
  | .cpl => [0x2F]
  | .jr_nc_e8 e => [0x30, e]
  | .ld_sp_d16 nn => [0x31, lowByte nn, highByte nn]
  | .ld_atHLd_a => [0x32]
  | .inc_sp => [0x33]
  | .inc_atHL => [0x34]
  | .dec_atHL => [0x35]
  | .ld_atHL_d8 n => [0x36, n]
  | .scf => [0x37]
  | .jr_c_e8 e => [0x38, e]
  | .add_hl_sp => [0x39]
  | .ld_a_atHLd => [0x3A]
  | .dec_sp => [0x3B]
  | .inc_a => [0x3C]
  | .dec_a => [0x3D]
  | .ld_a_d8 n => [0x3E, n]
  | .ccf => [0x3F]
  | .ld_b_b => [0x40]
  | .ld_b_c => [0x41]
  | .ld_b_d => [0x42]
  | .ld_b_e => [0x43]
  | .ld_b_h => [0x44]
  | .ld_b_l => [0x45]
  | .ld_b_atHL => [0x46]
  | .ld_b_a => [0x47]
  | .ld_c_b => [0x48]
  | .ld_c_c => [0x49]
  | .ld_c_d => [0x4A]
  | .ld_c_e => [0x4B]
  | .ld_c_h => [0x4C]
  | .ld_c_l => [0x4D]
  | .ld_c_atHL => [0x4E]
  | .ld_c_a => [0x4F]
  | .ld_d_b => [0x50]
  | .ld_d_c => [0x51]
  | .ld_d_d => [0x52]
  | .ld_d_e => [0x53]
  | .ld_d_h => [0x54]
  | .ld_d_l => [0x55]
  | .ld_d_atHL => [0x56]
  | .ld_d_a => [0x57]
  | .ld_e_b => [0x58]
  | .ld_e_c => [0x59]
  | .ld_e_d => [0x5A]
  | .ld_e_e => [0x5B]
  | .ld_e_h => [0x5C]
  | .ld_e_l => [0x5D]
  | .ld_e_atHL => [0x5E]
  | .ld_e_a => [0x5F]
  | .ld_h_b => [0x60]
  | .ld_h_c => [0x61]
  | .ld_h_d => [0x62]
  | .ld_h_e => [0x63]
  | .ld_h_h => [0x64]
  | .ld_h_l => [0x65]
  | .ld_h_atHL => [0x66]
  | .ld_h_a => [0x67]
  | .ld_l_b => [0x68]
  | .ld_l_c => [0x69]
  | .ld_l_d => [0x6A]
  | .ld_l_e => [0x6B]
  | .ld_l_h => [0x6C]
  | .ld_l_l => [0x6D]
  | .ld_l_atHL => [0x6E]
  | .ld_l_a => [0x6F]
  | .ld_atHL_b => [0x70]
  | .ld_atHL_c => [0x71]
  | .ld_atHL_d => [0x72]
  | .ld_atHL_e => [0x73]
  | .ld_atHL_h => [0x74]
  | .ld_atHL_l => [0x75]
  | .halt => [0x76]
  | .ld_atHL_a => [0x77]
  | .ld_a_b => [0x78]
  | .ld_a_c => [0x79]
  | .ld_a_d => [0x7A]
  | .ld_a_e => [0x7B]
  | .ld_a_h => [0x7C]
  | .ld_a_l => [0x7D]
  | .ld_a_atHL => [0x7E]
  | .ld_a_a => [0x7F]
  | .add_a_b => [0x80]
  | .add_a_c => [0x81]
  | .add_a_d => [0x82]
  | .add_a_e => [0x83]
  | .add_a_h => [0x84]
  | .add_a_l => [0x85]
  | .add_a_atHL => [0x86]
  | .add_a_a => [0x87]
  | .adc_a_b => [0x88]
  | .adc_a_c => [0x89]
  | .adc_a_d => [0x8A]
  | .adc_a_e => [0x8B]
  | .adc_a_h => [0x8C]
  | .adc_a_l => [0x8D]
  | .adc_a_atHL => [0x8E]
  | .adc_a_a => [0x8F]
  | .sub_b => [0x90]
  | .sub_c => [0x91]
  | .sub_d => [0x92]
  | .sub_e => [0x93]
  | .sub_h => [0x94]
  | .sub_l => [0x95]
  | .sub_atHL => [0x96]
  | .sub_a => [0x97]
  | .sbc_a_b => [0x98]
  | .sbc_a_c => [0x99]
  | .sbc_a_d => [0x9A]
  | .sbc_a_e => [0x9B]
  | .sbc_a_h => [0x9C]
  | .sbc_a_l => [0x9D]
  | .sbc_a_atHL => [0x9E]
  | .sbc_a_a => [0x9F]
  | .and_b => [0xA0]
  | .and_c => [0xA1]
  | .and_d => [0xA2]
  | .and_e => [0xA3]
  | .and_h => [0xA4]
  | .and_l => [0xA5]
  | .and_atHL => [0xA6]
  | .and_a => [0xA7]
  | .xor_b => [0xA8]
  | .xor_c => [0xA9]
  | .xor_d => [0xAA]
  | .xor_e => [0xAB]
  | .xor_h => [0xAC]
  | .xor_l => [0xAD]
  | .xor_atHL => [0xAE]
  | .xor_a => [0xAF]
  | .or_b => [0xB0]
  | .or_c => [0xB1]
  | .or_d => [0xB2]
  | .or_e => [0xB3]
  | .or_h => [0xB4]
  | .or_l => [0xB5]
  | .or_atHL => [0xB6]
  | .or_a => [0xB7]
  | .cp_b => [0xB8]
  | .cp_c => [0xB9]
  | .cp_d => [0xBA]
  | .cp_e => [0xBB]
  | .cp_h => [0xBC]
  | .cp_l => [0xBD]
  | .cp_atHL => [0xBE]
  | .cp_a => [0xBF]
  | .ret_nz => [0xC0]
  | .pop_bc => [0xC1]
  | .jp_nz_a16 nn => [0xC2, lowByte nn, highByte nn]
  | .jp_a16 nn => [0xC3, lowByte nn, highByte nn]
  | .call_nz_a16 nn => [0xC4, lowByte nn, highByte nn]
  | .push_bc => [0xC5]
  | .add_a_d8 n => [0xC6, n]
  | .rst_00h => [0xC7]
  | .ret_z => [0xC8]
  | .ret => [0xC9]
  | .jp_z_a16 nn => [0xCA, lowByte nn, highByte nn]
  | .prefix_cb c => [0xCB, c]
  | .call_z_a16 nn => [0xCC, lowByte nn, highByte nn]
  | .call_a16 nn => [0xCD, lowByte nn, highByte nn]
  | .adc_a_d8 n => [0xCE, n]
  | .rst_08h => [0xCF]
  | .ret_nc => [0xD0]
  | .pop_de => [0xD1]
  | .jp_nc_a16 nn => [0xD2, lowByte nn, highByte nn]
  | .illegal_d3 => [0xD3]
  | .call_nc_a16 nn => [0xD4, lowByte nn, highByte nn]
  | .push_de => [0xD5]
  | .sub_d8 n => [0xD6, n]
  | .rst_10h => [0xD7]
  | .ret_c => [0xD8]
  | .reti => [0xD9]
  | .jp_c_a16 nn => [0xDA, lowByte nn, highByte nn]
  | .illegal_db => [0xDB]
  | .call_c_a16 nn => [0xDC, lowByte nn, highByte nn]
  | .illegal_dd => [0xDD]
  | .sbc_a_d8 n => [0xDE, n]
  | .rst_18h => [0xDF]
  | .ldh_atA8_a n => [0xE0, n]
  | .pop_hl => [0xE1]
  | .ldh_atC_a => [0xE2]
  | .illegal_e3 => [0xE3]
  | .illegal_e4 => [0xE4]
  | .push_hl => [0xE5]
  | .and_d8 n => [0xE6, n]
  | .rst_20h => [0xE7]
  | .add_sp_e8 e => [0xE8, e]
  | .jp_hl => [0xE9]
  | .ld_atA16_a nn => [0xEA, lowByte nn, highByte nn]
  | .illegal_eb => [0xEB]
  | .illegal_ec => [0xEC]
  | .illegal_ed => [0xED]
  | .xor_d8 n => [0xEE, n]
  | .rst_28h => [0xEF]
  | .ldh_a_atA8 n => [0xF0, n]
  | .pop_af => [0xF1]
  | .ldh_a_atC => [0xF2]
  | .di => [0xF3]
  | .illegal_f4 => [0xF4]
  | .push_af => [0xF5]
  | .or_d8 n => [0xF6, n]
  | .rst_30h => [0xF7]
  | .ld_hl_sp_e8 e => [0xF8, e]
  | .ld_sp_hl => [0xF9]
  | .ld_a_atA16 nn => [0xFA, lowByte nn, highByte nn]
  | .ei => [0xFB]
  | .illegal_fc => [0xFC]
  | .illegal_fd => [0xFD]
  | .cp_d8 n => [0xFE, n]
  | .rst_38h => [0xFF]
  | .rlc_b => [0xCB, 0x00]
  | .rlc_c => [0xCB, 0x01]
  | .rlc_d => [0xCB, 0x02]
  | .rlc_e => [0xCB, 0x03]
  | .rlc_h => [0xCB, 0x04]
  | .rlc_l => [0xCB, 0x05]
  | .rlc_atHL => [0xCB, 0x06]
  | .rlc_a => [0xCB, 0x07]
  | .rrc_b => [0xCB, 0x08]
  | .rrc_c => [0xCB, 0x09]
  | .rrc_d => [0xCB, 0x0A]
  | .rrc_e => [0xCB, 0x0B]
  | .rrc_h => [0xCB, 0x0C]
  | .rrc_l => [0xCB, 0x0D]
  | .rrc_atHL => [0xCB, 0x0E]
  | .rrc_a => [0xCB, 0x0F]
  | .rl_b => [0xCB, 0x10]
  | .rl_c => [0xCB, 0x11]
  | .rl_d => [0xCB, 0x12]
  | .rl_e => [0xCB, 0x13]
  | .rl_h => [0xCB, 0x14]
  | .rl_l => [0xCB, 0x15]
  | .rl_atHL => [0xCB, 0x16]
  | .rl_a => [0xCB, 0x17]
  | .rr_b => [0xCB, 0x18]
  | .rr_c => [0xCB, 0x19]
  | .rr_d => [0xCB, 0x1A]
  | .rr_e => [0xCB, 0x1B]
  | .rr_h => [0xCB, 0x1C]
  | .rr_l => [0xCB, 0x1D]
  | .rr_atHL => [0xCB, 0x1E]
  | .rr_a => [0xCB, 0x1F]
  | .sla_b => [0xCB, 0x20]
  | .sla_c => [0xCB, 0x21]
  | .sla_d => [0xCB, 0x22]
  | .sla_e => [0xCB, 0x23]
  | .sla_h => [0xCB, 0x24]
  | .sla_l => [0xCB, 0x25]
  | .sla_atHL => [0xCB, 0x26]
  | .sla_a => [0xCB, 0x27]
  | .sra_b => [0xCB, 0x28]
  | .sra_c => [0xCB, 0x29]
  | .sra_d => [0xCB, 0x2A]
  | .sra_e => [0xCB, 0x2B]
  | .sra_h => [0xCB, 0x2C]
  | .sra_l => [0xCB, 0x2D]
  | .sra_atHL => [0xCB, 0x2E]
  | .sra_a => [0xCB, 0x2F]
  | .swap_b => [0xCB, 0x30]
  | .swap_c => [0xCB, 0x31]
  | .swap_d => [0xCB, 0x32]
  | .swap_e => [0xCB, 0x33]
  | .swap_h => [0xCB, 0x34]
  | .swap_l => [0xCB, 0x35]
  | .swap_atHL => [0xCB, 0x36]
  | .swap_a => [0xCB, 0x37]
  | .srl_b => [0xCB, 0x38]
  | .srl_c => [0xCB, 0x39]
  | .srl_d => [0xCB, 0x3A]
  | .srl_e => [0xCB, 0x3B]
  | .srl_h => [0xCB, 0x3C]
  | .srl_l => [0xCB, 0x3D]
  | .srl_atHL => [0xCB, 0x3E]
  | .srl_a => [0xCB, 0x3F]
  | .bit_0_b => [0xCB, 0x40]
  | .bit_0_c => [0xCB, 0x41]
  | .bit_0_d => [0xCB, 0x42]
  | .bit_0_e => [0xCB, 0x43]
  | .bit_0_h => [0xCB, 0x44]
  | .bit_0_l => [0xCB, 0x45]
  | .bit_0_atHL => [0xCB, 0x46]
  | .bit_0_a => [0xCB, 0x47]
  | .bit_1_b => [0xCB, 0x48]
  | .bit_1_c => [0xCB, 0x49]
  | .bit_1_d => [0xCB, 0x4A]
  | .bit_1_e => [0xCB, 0x4B]
  | .bit_1_h => [0xCB, 0x4C]
  | .bit_1_l => [0xCB, 0x4D]
  | .bit_1_atHL => [0xCB, 0x4E]
  | .bit_1_a => [0xCB, 0x4F]
  | .bit_2_b => [0xCB, 0x50]
  | .bit_2_c => [0xCB, 0x51]
  | .bit_2_d => [0xCB, 0x52]
  | .bit_2_e => [0xCB, 0x53]
  | .bit_2_h => [0xCB, 0x54]
  | .bit_2_l => [0xCB, 0x55]
  | .bit_2_atHL => [0xCB, 0x56]
  | .bit_2_a => [0xCB, 0x57]
  | .bit_3_b => [0xCB, 0x58]
  | .bit_3_c => [0xCB, 0x59]
  | .bit_3_d => [0xCB, 0x5A]
  | .bit_3_e => [0xCB, 0x5B]
  | .bit_3_h => [0xCB, 0x5C]
  | .bit_3_l => [0xCB, 0x5D]
  | .bit_3_atHL => [0xCB, 0x5E]
  | .bit_3_a => [0xCB, 0x5F]
  | .bit_4_b => [0xCB, 0x60]
  | .bit_4_c => [0xCB, 0x61]
  | .bit_4_d => [0xCB, 0x62]
  | .bit_4_e => [0xCB, 0x63]
  | .bit_4_h => [0xCB, 0x64]
  | .bit_4_l => [0xCB, 0x65]
  | .bit_4_atHL => [0xCB, 0x66]
  | .bit_4_a => [0xCB, 0x67]
  | .bit_5_b => [0xCB, 0x68]
  | .bit_5_c => [0xCB, 0x69]
  | .bit_5_d => [0xCB, 0x6A]
  | .bit_5_e => [0xCB, 0x6B]
  | .bit_5_h => [0xCB, 0x6C]
  | .bit_5_l => [0xCB, 0x6D]
  | .bit_5_atHL => [0xCB, 0x6E]
  | .bit_5_a => [0xCB, 0x6F]
  | .bit_6_b => [0xCB, 0x70]
  | .bit_6_c => [0xCB, 0x71]
  | .bit_6_d => [0xCB, 0x72]
  | .bit_6_e => [0xCB, 0x73]
  | .bit_6_h => [0xCB, 0x74]
  | .bit_6_l => [0xCB, 0x75]
  | .bit_6_atHL => [0xCB, 0x76]
  | .bit_6_a => [0xCB, 0x77]
  | .bit_7_b => [0xCB, 0x78]
  | .bit_7_c => [0xCB, 0x79]
  | .bit_7_d => [0xCB, 0x7A]
  | .bit_7_e => [0xCB, 0x7B]
  | .bit_7_h => [0xCB, 0x7C]
  | .bit_7_l => [0xCB, 0x7D]
  | .bit_7_atHL => [0xCB, 0x7E]
  | .bit_7_a => [0xCB, 0x7F]
  | .res_0_b => [0xCB, 0x80]
  | .res_0_c => [0xCB, 0x81]
  | .res_0_d => [0xCB, 0x82]
  | .res_0_e => [0xCB, 0x83]
  | .res_0_h => [0xCB, 0x84]
  | .res_0_l => [0xCB, 0x85]
  | .res_0_atHL => [0xCB, 0x86]
  | .res_0_a => [0xCB, 0x87]
  | .res_1_b => [0xCB, 0x88]
  | .res_1_c => [0xCB, 0x89]
  | .res_1_d => [0xCB, 0x8A]
  | .res_1_e => [0xCB, 0x8B]
  | .res_1_h => [0xCB, 0x8C]
  | .res_1_l => [0xCB, 0x8D]
  | .res_1_atHL => [0xCB, 0x8E]
  | .res_1_a => [0xCB, 0x8F]
  | .res_2_b => [0xCB, 0x90]
  | .res_2_c => [0xCB, 0x91]
  | .res_2_d => [0xCB, 0x92]
  | .res_2_e => [0xCB, 0x93]
  | .res_2_h => [0xCB, 0x94]
  | .res_2_l => [0xCB, 0x95]
  | .res_2_atHL => [0xCB, 0x96]
  | .res_2_a => [0xCB, 0x97]
  | .res_3_b => [0xCB, 0x98]
  | .res_3_c => [0xCB, 0x99]
  | .res_3_d => [0xCB, 0x9A]
  | .res_3_e => [0xCB, 0x9B]
  | .res_3_h => [0xCB, 0x9C]
  | .res_3_l => [0xCB, 0x9D]
  | .res_3_atHL => [0xCB, 0x9E]
  | .res_3_a => [0xCB, 0x9F]
  | .res_4_b => [0xCB, 0xA0]
  | .res_4_c => [0xCB, 0xA1]
  | .res_4_d => [0xCB, 0xA2]
  | .res_4_e => [0xCB, 0xA3]
  | .res_4_h => [0xCB, 0xA4]
  | .res_4_l => [0xCB, 0xA5]
  | .res_4_atHL => [0xCB, 0xA6]
  | .res_4_a => [0xCB, 0xA7]
  | .res_5_b => [0xCB, 0xA8]
  | .res_5_c => [0xCB, 0xA9]
  | .res_5_d => [0xCB, 0xAA]
  | .res_5_e => [0xCB, 0xAB]
  | .res_5_h => [0xCB, 0xAC]
  | .res_5_l => [0xCB, 0xAD]
  | .res_5_atHL => [0xCB, 0xAE]
  | .res_5_a => [0xCB, 0xAF]
  | .res_6_b => [0xCB, 0xB0]
  | .res_6_c => [0xCB, 0xB1]
  | .res_6_d => [0xCB, 0xB2]
  | .res_6_e => [0xCB, 0xB3]
  | .res_6_h => [0xCB, 0xB4]
  | .res_6_l => [0xCB, 0xB5]
  | .res_6_atHL => [0xCB, 0xB6]
  | .res_6_a => [0xCB, 0xB7]
  | .res_7_b => [0xCB, 0xB8]
  | .res_7_c => [0xCB, 0xB9]
  | .res_7_d => [0xCB, 0xBA]
  | .res_7_e => [0xCB, 0xBB]
  | .res_7_h => [0xCB, 0xBC]
  | .res_7_l => [0xCB, 0xBD]
  | .res_7_atHL => [0xCB, 0xBE]
  | .res_7_a => [0xCB, 0xBF]
  | .set_0_b => [0xCB, 0xC0]
  | .set_0_c => [0xCB, 0xC1]
  | .set_0_d => [0xCB, 0xC2]
  | .set_0_e => [0xCB, 0xC3]
  | .set_0_h => [0xCB, 0xC4]
  | .set_0_l => [0xCB, 0xC5]
  | .set_0_atHL => [0xCB, 0xC6]
  | .set_0_a => [0xCB, 0xC7]
  | .set_1_b => [0xCB, 0xC8]
  | .set_1_c => [0xCB, 0xC9]
  | .set_1_d => [0xCB, 0xCA]
  | .set_1_e => [0xCB, 0xCB]
  | .set_1_h => [0xCB, 0xCC]
  | .set_1_l => [0xCB, 0xCD]
  | .set_1_atHL => [0xCB, 0xCE]
  | .set_1_a => [0xCB, 0xCF]
  | .set_2_b => [0xCB, 0xD0]
  | .set_2_c => [0xCB, 0xD1]
  | .set_2_d => [0xCB, 0xD2]
  | .set_2_e => [0xCB, 0xD3]
  | .set_2_h => [0xCB, 0xD4]
  | .set_2_l => [0xCB, 0xD5]
  | .set_2_atHL => [0xCB, 0xD6]
  | .set_2_a => [0xCB, 0xD7]
  | .set_3_b => [0xCB, 0xD8]
  | .set_3_c => [0xCB, 0xD9]
  | .set_3_d => [0xCB, 0xDA]
  | .set_3_e => [0xCB, 0xDB]
  | .set_3_h => [0xCB, 0xDC]
  | .set_3_l => [0xCB, 0xDD]
  | .set_3_atHL => [0xCB, 0xDE]
  | .set_3_a => [0xCB, 0xDF]
  | .set_4_b => [0xCB, 0xE0]
  | .set_4_c => [0xCB, 0xE1]
  | .set_4_d => [0xCB, 0xE2]
  | .set_4_e => [0xCB, 0xE3]
  | .set_4_h => [0xCB, 0xE4]
  | .set_4_l => [0xCB, 0xE5]
  | .set_4_atHL => [0xCB, 0xE6]
  | .set_4_a => [0xCB, 0xE7]
  | .set_5_b => [0xCB, 0xE8]
  | .set_5_c => [0xCB, 0xE9]
  | .set_5_d => [0xCB, 0xEA]
  | .set_5_e => [0xCB, 0xEB]
  | .set_5_h => [0xCB, 0xEC]
  | .set_5_l => [0xCB, 0xED]
  | .set_5_atHL => [0xCB, 0xEE]
  | .set_5_a => [0xCB, 0xEF]
  | .set_6_b => [0xCB, 0xF0]
  | .set_6_c => [0xCB, 0xF1]
  | .set_6_d => [0xCB, 0xF2]
  | .set_6_e => [0xCB, 0xF3]
  | .set_6_h => [0xCB, 0xF4]
  | .set_6_l => [0xCB, 0xF5]
  | .set_6_atHL => [0xCB, 0xF6]
  | .set_6_a => [0xCB, 0xF7]
  | .set_7_b => [0xCB, 0xF8]
  | .set_7_c => [0xCB, 0xF9]
  | .set_7_d => [0xCB, 0xFA]
  | .set_7_e => [0xCB, 0xFB]
  | .set_7_h => [0xCB, 0xFC]
  | .set_7_l => [0xCB, 0xFD]
  | .set_7_atHL => [0xCB, 0xFE]
  | .set_7_a => [0xCB, 0xFF]

/-- The bytes of a table word: bit 0 of `w` is the least significant bit of the first byte, except that the table
numbers the CB rows (mask 0xFFFF) as ONE BIG-ENDIAN 16-bit value, 0xCB in bits 15..8 (R414; log 4).
Operand bytes the word has no bits for are 0. -/
def tableBytes (nbits w : Nat) : List Byte :=
  if nbits = 16 ∧ w / 256 % 256 = 0xCB then
    [0xCB, BitVec.ofNat 8 w, 0]
  else
    [BitVec.ofNat 8 w, BitVec.ofNat 8 (w / 256), BitVec.ofNat 8 (w / 65536)]

/-- The instruction the decoder reads from an instruction whose bits are `w`, numbered as
`spec/opcode_table.json` numbers them. -/
def decodeTableWord (nbits w : Nat) : Option Instr :=
  match decode (tableBytes nbits w) with
  | .ok (i, _) => some i
  | .error _ => none

end Sys2Proof
end

