-- ==== Sys2Proof/Machine/Bits.lean ====
section
/-! DEFINITION. Bit fields and extensions (00_scope R17, R18). -/

namespace Sys2Proof.Machine

/-- `v[i]` (R17). -/
def bit (v : Byte) (i : Nat) : Bool := v.getLsbD i

/-- The field `v[hi:lo]` read as an unsigned number (R17). -/
def field (v : Byte) (hi lo : Nat) : Nat := v.toNat / 2 ^ lo % 2 ^ (hi + 1 - lo)

/-- `v` with bit `i` set to `b`. -/
def setBit (v : Byte) (i : Nat) (b : Bool) : Byte :=
  if b then v ||| BitVec.ofNat 8 (2 ^ i) else v &&& ~~~(BitVec.ofNat 8 (2 ^ i))

/-- The bits of `v` where `mask` is 1, the bits of `old` elsewhere. -/
def mergeBits (old v mask : Byte) : Byte := (old &&& ~~~mask) ||| (v &&& mask)

/-- `sext_16(v)` (R18). -/
def sext16 (v : Byte) : Word := v.signExtend 16

/-- A Bool as 0 or 1. -/
def bitNat (b : Bool) : Nat := if b then 1 else 0

/-- A Bool as a byte, 0 or 1. -/
def bitByte (b : Bool) : Byte := if b then 1 else 0

end Sys2Proof.Machine
end

