-- ==== Sys2Proof/Config.lean ====
section
/-! DEFINITION. What an implementation fixes and the spec leaves OPEN (00_scope R15, the table of OPEN
parameters in 92_eei_decisions).  An OPEN parameter with a small set of values is an inductive type here and a
field of `Params`, which every state carries, so a statement about every state holds for every value.
The values of one particular machine, and the three OPEN functions, are constants without a body:
nothing can be proved about which value they have. -/

namespace Sys2Proof

/-- `ADD16_HALF_CARRY` (43_alu16 R650): the H flag of ADD HL,rr. -/
inductive Add16HalfCarry where
  /-- `HW_BIT11`: the carry out of bit 11. -/
  | hwBit11
  /-- `OMIT`: H keeps its previous value. -/
  | omitted
  /-- `LOW_BYTE`: the carry out of bit 3 of the low byte. -/
  | lowByte
deriving DecidableEq, Repr, Inhabited

/-- `HALT_BUG` (46_system R802): HALT with IME = 0 and an interrupt already pending. -/
inductive HaltBug where
  /-- `NONE`: HALT completes as a NOP. -/
  | none
  /-- `REPEAT_BYTE`: the next opcode fetch does not increment PC. -/
  | repeatByte
deriving DecidableEq, Repr, Inhabited

/-- `IO_READBACK` (10_state R62): what unused bits, write-only bits and unused addresses read as. -/
inductive IoReadback where
  /-- `HW`: such bits read 1, unused addresses read 0xFF and ignore writes. -/
  | hw
  /-- `RAW`: the I/O file reads back as last written. -/
  | raw
deriving DecidableEq, Repr, Inhabited

/-- `SPRITE_LINE_LIMIT` (50_ppu R940). -/
inductive SpriteLineLimit where
  /-- `TEN`: only the first ten entries on a line, in OAM order. -/
  | ten
  /-- `NONE`: every entry on the line. -/
  | none
deriving DecidableEq, Repr, Inhabited

/-- `MIX_FORMAT` (55_apu R1082). -/
inductive MixFormat where
  /-- `STEREO_S8`: interleaved pairs (L, R). -/
  | stereoS8
  /-- `MONO_S8`: `wrap8 (L + R)`. -/
  | monoS8
deriving DecidableEq, Repr, Inhabited

/-- `RTC_TIMESTAMP_UNIT` (25_cartridge R362): the unit of the dump timestamp and of host time. -/
inductive RtcUnit where
  | seconds
  | milliseconds
deriving DecidableEq, Repr, Inhabited

/-- The OPEN parameters the model takes as arguments (00_scope R15), one field each. -/
structure Params where
  add16HalfCarry : Add16HalfCarry
  haltBug : HaltBug
  ioReadback : IoReadback
  spriteLineLimit : SpriteLineLimit
  mixFormat : MixFormat
  rtcUnit : RtcUnit
  /-- `SAMPLE_RATE`, samples per second, a positive integer (55_apu R1080). -/
  sampleRate : Nat
deriving DecidableEq, Repr

/-- An RGBA colour value (50_ppu R960). -/
structure Rgba where
  r : Byte
  g : Byte
  b : Byte
  a : Byte
deriving DecidableEq, Repr, Inhabited

namespace Config

/-- The `ADD16_HALF_CARRY` of the machine `State.reset` describes; OPEN (decision D11). -/
opaque add16HalfCarry : Add16HalfCarry

/-- The `HALT_BUG` of the machine `State.reset` describes; OPEN (decision D7). -/
opaque haltBug : HaltBug

/-- The `IO_READBACK` of the machine `State.reset` describes; OPEN (decision D25). -/
opaque ioReadback : IoReadback

/-- The `SPRITE_LINE_LIMIT` of the machine `State.reset` describes; OPEN (decision D28). -/
opaque spriteLineLimit : SpriteLineLimit

/-- The `MIX_FORMAT` of the machine `State.reset` describes; OPEN (decision D36). -/
opaque mixFormat : MixFormat

/-- The `RTC_TIMESTAMP_UNIT` of the machine `State.reset` describes; OPEN (decision D61). -/
opaque rtcUnit : RtcUnit

/-- One less than the `SAMPLE_RATE` of the machine `State.reset` describes; OPEN (decision D36). -/
opaque sampleRatePred : Nat

/-- The `GBC_HARDWARE` of the machine `State.reset` describes; OPEN (decision D24). -/
opaque gbcHardware : Bool

/-- DESIGN CHOICE (log 2, unsafe): the `INIT_RAM` of `State.reset` fills every RAM with 0x00, the fill the spec's own
test vectors use (70_reset R1210). -/
def initRam : Byte := 0x00

/-- The parameters of the machine `State.reset` describes.  `sampleRate` is positive (R1080). -/
def params : Params where
  add16HalfCarry := add16HalfCarry
  haltBug := haltBug
  ioReadback := ioReadback
  spriteLineLimit := spriteLineLimit
  mixFormat := mixFormat
  rtcUnit := rtcUnit
  sampleRate := sampleRatePred + 1

/-- `DMG_RGB : shade 0..3 -> RGBA`, OPEN (50_ppu R960, decision D29). -/
opaque dmgRgb : BitVec 2 → Rgba

/-- `CGB_RGB : 15-bit colour -> RGBA`, OPEN (50_ppu R960, decision D29). -/
opaque cgbRgb : BitVec 15 → Rgba

/-- `CHANNEL_AMPLITUDE(k, d, vol) : Int`, OPEN (55_apu R1081, decision D36): channel `k` in 1..4,
level `d` in 0..15, master volume `vol` in 0..7. -/
opaque channelAmplitude : Nat → Nat → Nat → Int

end Config

end Sys2Proof
end

