-- ==== Sys2Proof/Machine/State.lean ====
section
/-! DEFINITION. The whole state of the machine as plain data (10_state; R7's four parts share it), and the state
after reset (70_reset R1200, R1201).  A name the spec gives to a view of other state (`timer_active`,
`timer_period`, `vram_bank`, `wram_bank`, `lcd_on`, `next_event`, the register pairs) is stored once and
computed where it is read (log 7). -/

namespace Sys2Proof.Machine

/-- A byte array as the cells that differ from its fill byte, in rising address order (`Memory.wf`).
An address without a cell reads as `fill`. -/
structure Memory where
  fill : Byte
  cells : List Host.Cell
deriving DecidableEq, Repr

/-- The array with nothing listed. -/
def Memory.empty (fill : Byte) : Memory := ⟨fill, []⟩

/-- The CPU register file (R50): eight 8-bit registers, SP and PC.  The pairs are views (R52). -/
structure Regs where
  a : Byte
  /-- Z = F[7], N = F[6], H = F[5], C = F[4]; F[3:0] is always 0 (R55). -/
  f : Byte
  b : Byte
  c : Byte
  d : Byte
  e : Byte
  h : Byte
  l : Byte
  sp : Word
  pc : Word
deriving DecidableEq, Repr

/-- The recorded fatal error `IllegalOpcode(op, addr)` (R60, 60_exceptions R1130). -/
structure IllegalOpcode where
  op : Byte
  addr : Word
deriving DecidableEq, Repr

/-- What is fixed when the cartridge is loaded (R12, 25_cartridge R301 to R303).  The kind, `HAS_BATTERY` and
`HAS_RTC` are functions of `cartType` (R305, R306), `ROM_HALF_BANKS` is twice `romBanks`. -/
structure Cartridge where
  /-- `CART_TYPE`, header byte 0x0147. -/
  cartType : Byte
  /-- `ROM_BANKS`, the number of 16 KiB ROM banks. -/
  romBanks : Nat
  /-- `RAM_BANKS`, the number of 8 KiB RAM banks. -/
  ramBanks : Nat
deriving DecidableEq, Repr

/-- The RTC register file S, M, H, DL, DH (R342). -/
structure Rtc where
  s : Byte
  m : Byte
  h : Byte
  dl : Byte
  dh : Byte
deriving DecidableEq, Repr

/-- The mapper state (R126). -/
structure Mapper where
  /-- The ROM bank number register; MBC1's BANK1 (R327). -/
  romBank : Nat
  /-- The RAM bank / RTC select register; MBC1's BANK2 (R327). -/
  ramBank : Nat
  /-- `mbc1_mode`, true for 1, the large-RAM addressing mode. -/
  mbc1Mode : Bool
  ramEnabled : Bool
  rtc : Rtc
  rtcLatched : Rtc
  /-- The last value written to the latch range. -/
  rtcLatchPrev : Byte
  /-- The "last synced" timestamp, in the unit of host time. -/
  rtcLastSync : Nat
deriving DecidableEq, Repr

/-- The timer and divider state (R59, 60_exceptions R1150 to R1153).  `timer_active` and `timer_period` are
views of TAC (R59, R68). -/
structure Timer where
  base : Nat
  timaBase : Byte
  deadline : Option Nat
  /-- The "DIV-reset baseline". -/
  divBase : Nat
deriving DecidableEq, Repr

/-- The HDMA state (R130). -/
structure Hdma where
  active : Bool
  src : Word
  dst : Word
  /-- Blocks left, 0..128. -/
  remaining : Nat
deriving DecidableEq, Repr

/-- The LCD mode (R131): mode 0 `hblank`, 1 `vblank`, 2 `search`, 3 `transfer`. -/
inductive PpuMode where
  | hblank
  | vblank
  | search
  | transfer
deriving DecidableEq, Repr

/-- A pixel before the OPEN colour maps (50_ppu R960): a DMG shade or a CGB 15-bit colour.  Its RGBA value is
`Pixel.rgba` (log 15). -/
inductive Pixel where
  | dmg (shade : BitVec 2)
  | cgb (colour : BitVec 15)
deriving DecidableEq, Repr

/-- A framebuffer: 144 rows of 160 pixels, row 0 at the top (R14, R930). -/
abbrev Frame := List (List Pixel)

/-- The frame whose pixels are all `p`. -/
def Frame.uniform (p : Pixel) : Frame := List.replicate 144 (List.replicate 160 p)

/-- The PPU state (R131, R96, R59).  `lcd_on` is LCDC bit 7. -/
structure Ppu where
  mode : PpuMode
  /-- LY, the current line, 0..153 (R96). -/
  ly : Byte
  /-- The window's internal line counter (50_ppu R925). -/
  windowLine : Byte
  /-- `mode_deadline`; none while the LCD is off. -/
  modeDeadline : Option Nat
  /-- `frame_deadline_off`; none while the LCD is on. -/
  frameDeadlineOff : Option Nat
  backBuffer : Frame
  publishedFrame : Option Frame
deriving DecidableEq, Repr

/-- The state every sound channel has (R91). -/
structure Channel where
  enabled : Bool
  /-- The length counter, 0..256. -/
  length : Nat
  lengthEnable : Bool
  /-- The generator's phase, a rational in [0, 1) (55_apu R1040). -/
  phase : Rat
deriving DecidableEq, Repr

/-- The envelope state of channels 1, 2 and 4 (R91). -/
structure Envelope where
  /-- 0..15. -/
  volume : Nat
  /-- 0..7. -/
  timer : Nat
deriving DecidableEq, Repr

/-- The APU's internal state (R91); its registers stand in the I/O file. -/
structure Apu where
  ch1 : Channel
  ch2 : Channel
  ch3 : Channel
  ch4 : Channel
  env1 : Envelope
  env2 : Envelope
  env4 : Envelope
  /-- 0..2047. -/
  shadowFreq : Nat
  /-- 0..7. -/
  sweepTimer : Nat
  lfsr : BitVec 15
deriving DecidableEq, Repr

/-- The eight named buttons; true is pressed (R63, R132). -/
structure Buttons where
  right : Bool
  left : Bool
  up : Bool
  down : Bool
  a : Bool
  b : Bool
  select : Bool
  start : Bool
deriving DecidableEq, Repr

/-- A call the core makes to the host's audio sink (60_exceptions R1190, 55_apu R1082). -/
inductive SinkCall where
  /-- `write(samples)`, at a frame tick. -/
  | write (samples : List Int)
  /-- `stop()`, when a run ends. -/
  | stop
  /-- `dispose()`, at teardown. -/
  | dispose
deriving DecidableEq, Repr

/-- Host-supplied state (R132, 60_exceptions R1190) and what the core has handed to the host (log 13, 14). -/
structure HostSide where
  buttons : Buttons
  inputChanged : Bool
  /-- The wall clock the RTC reads, in the unit `rtcUnit` (R345). -/
  time : Nat
  /-- Sound enabled by the host (55_apu R1083). -/
  soundEnabled : Bool
  /-- `availableSampleSlots()` of the audio sink; 0 when there is no sink (R1082). -/
  sampleSlots : Nat
  /-- How often the frame-ready observer has been called (50_ppu R930). -/
  framesReady : Nat
  /-- The calls made to the audio sink, the newest first (R1082, R1190). -/
  sinkCalls : List SinkCall
deriving DecidableEq, Repr

/-- The state of the whole machine. -/
structure State where
  /-- The CPU registers (R50). -/
  regs : Regs
  /-- The interrupt master enable (R58). -/
  ime : Bool
  /-- `IME_ARMED`, set by EI (R58, 46_system R800). -/
  imeArmed : Bool
  /-- Parked by HALT (R58). -/
  halted : Bool
  /-- Parked by STOP (R58). -/
  stopped : Bool
  /-- The model's own: the next opcode fetch does not increment PC (46_system R802, `REPEAT_BYTE`; log 16). -/
  haltRepeat : Bool
  /-- The instruction counter, in CPU cycles (R59). -/
  counter : Nat
  /-- The CGB speed, KEY1 bit 7 (R59, R102). -/
  doubleSpeed : Bool
  /-- The fatal error, once raised (R60). -/
  fault : Option IllegalOpcode
  /-- The run-loop flag (R60). -/
  running : Bool
  /-- A run has ended since the last reset (R60). -/
  runEnded : Bool
  /-- `GBC_HARDWARE`, the argument of reset (R11). -/
  gbcHardware : Bool
  /-- `cgb_mode`, fixed at load (R51). -/
  cgbMode : Bool
  /-- The loaded cartridge's parameters (R12). -/
  cart : Cartridge
  /-- The mapper (R126). -/
  mapper : Mapper
  /-- The ROM image, by image offset (R125, R307). -/
  rom : Memory
  /-- Cartridge RAM: bank b, offset o at b * 0x2000 + o; on MBC2 the cells 0..511 (R125, R330). -/
  cram : Memory
  /-- VRAM: bank b, offset o at b * 0x2000 + o (R125). -/
  vram : Memory
  /-- System RAM: bank b, offset o at b * 0x1000 + o (R125). -/
  wram : Memory
  /-- OAM, 256 bytes (R125, R210). -/
  oam : Memory
  /-- The I/O register file 0xFF00..0xFF7F by low address byte (R61): the stored bytes.  DIV, TIMA, LY, BCPD,
  OCPD and HDMA5 have no stored byte; wave RAM, high RAM and IE stand below. -/
  io : Memory
  /-- Wave RAM, 16 bytes (R90). -/
  wave : Memory
  /-- High RAM 0xFF80..0xFFFE by low address byte (R61). -/
  hram : Memory
  /-- IE, 0xFFFF (R120). -/
  ie : Byte
  /-- The CGB background palette memory, 64 bytes (R110). -/
  bgPal : Memory
  /-- The CGB object palette memory, 64 bytes (R111). -/
  objPal : Memory
  /-- The timer and divider (R59). -/
  timer : Timer
  /-- The counter value at which a serial transfer completes (R59). -/
  serialDeadline : Option Nat
  /-- HDMA (R130). -/
  hdma : Hdma
  /-- The PPU (R131). -/
  ppu : Ppu
  /-- The APU (R91). -/
  apu : Apu
  /-- The host's side (R132). -/
  host : HostSide
  /-- The OPEN parameters (00_scope R15); no step changes them. -/
  params : Params
deriving DecidableEq, Repr

/-- Why a step stops with a fault.  The spec's one fatal error, IllegalOpcode, is NOT here: R1130 says what state
it leaves, so it is a next state (log 5). -/
inductive Fault where
  /-- Raised by `step` if the decoder wants more bytes than the three the fetch supplies (R400: an instruction is
  1 to 3 bytes), or finds no row.  It never happens (`Laws.decode_three_bytes`); safe. -/
  | fetchTruncated
deriving DecidableEq, Repr

/-- Why a step is refused. -/
inductive Refusal where
  /-- Raised by an arm of `exec` that has no meaning yet; no arm raises it; safe. -/
  | notModelled (mnemonic : String)
deriving DecidableEq, Repr

/-- Reset values of the CPU registers, post-boot (R53, R54, R55, R57). -/
def Regs.atReset (cgb : Bool) : Regs :=
  if cgb then
    { a := 0x11, f := 0x80, b := 0x00, c := 0x00, d := 0xFF, e := 0x56, h := 0x00, l := 0x0D,
      sp := 0xFFFE, pc := 0x0100 }
  else
    { a := 0x01, f := 0xB0, b := 0x00, c := 0x13, d := 0x00, e := 0xD8, h := 0x01, l := 0x4D,
      sp := 0xFFFE, pc := 0x0100 }

/-- The stored bytes of the serial, timer and interrupt registers after reset (R1201).  Where the spec gives
only the byte that is read, that byte is stored (log 8). -/
def resetIoLow (cgb : Bool) : List Host.Cell :=
  [(0x00, 0xC0), (0x01, 0x00), (0x02, if cgb then 0x7F else 0x7E), (0x06, 0x00), (0x07, 0x00), (0x0F, 0x01)]

/-- The stored bytes of the sound registers after reset (R70 to R88, R1201); those not listed hold 0xFF. -/
def resetIoSound : List Host.Cell :=
  [(0x10, 0x80), (0x11, 0xBF), (0x12, 0xF3), (0x14, 0xBF), (0x16, 0x3F), (0x17, 0x00), (0x19, 0xBF),
   (0x1A, 0x7F), (0x1C, 0x9F), (0x1E, 0xBF), (0x21, 0x00), (0x22, 0x00), (0x23, 0xBF), (0x24, 0x77),
   (0x25, 0xF3), (0x26, 0xF0)]

/-- The stored bytes of the LCD registers after reset (R93 to R101, R1201); those not listed hold 0xFF. -/
def resetIoLcd : List Host.Cell :=
  [(0x40, 0x91), (0x41, 0x80), (0x42, 0x00), (0x43, 0x00), (0x45, 0x00), (0x47, 0xFC), (0x4A, 0x00),
   (0x4B, 0x00)]

/-- The stored bytes of the CGB registers after reset (R102 to R113, R1201); when not `cgb_mode` each is an
unused address, whose reset contents are 0xFF (R121). -/
def resetIoCgb (cgb : Bool) : List Host.Cell :=
  if cgb then
    [(0x4D, 0x7E), (0x4F, 0xFE), (0x56, 0x00), (0x68, 0x00), (0x6A, 0x00), (0x70, 0x00)]
  else []

/-- The I/O register file after reset (R1201): an address not listed holds 0xFF. -/
def resetIo (cgb : Bool) : Memory :=
  ⟨0xFF, resetIoLow cgb ++ resetIoSound ++ resetIoLcd ++ resetIoCgb cgb⟩

/-- A channel at rest (R91). -/
def Channel.silent : Channel := { enabled := false, length := 0, lengthEnable := false, phase := 0 }

/-- The APU after reset (R91, R1084): channel 1 enabled with volume 15.  The other channels' lengths and volumes,
and `shadow_freq`, are not given: 0 (log 10). -/
def Apu.atReset : Apu where
  ch1 := { Channel.silent with enabled := true }
  ch2 := Channel.silent
  ch3 := Channel.silent
  ch4 := Channel.silent
  env1 := ⟨15, 0⟩
  env2 := ⟨0, 0⟩
  env4 := ⟨0, 0⟩
  shadowFreq := 0
  sweepTimer := 0
  lfsr := 0x7FFF

/-- The PPU after reset (R131, R901). -/
def Ppu.atReset : Ppu where
  mode := .search
  ly := 0
  windowLine := 0
  modeDeadline := some 80
  frameDeadlineOff := none
  backBuffer := Frame.uniform (.dmg 0)
  publishedFrame := none

/-- The mapper after reset (R126). -/
def Mapper.atReset : Mapper where
  romBank := 1
  ramBank := 0
  mbc1Mode := false
  ramEnabled := false
  rtc := ⟨0, 0, 0, 0, 0⟩
  rtcLatched := ⟨0, 0, 0, 0, 0⟩
  rtcLatchPrev := 0xFF
  rtcLastSync := 0

/-- The host's side before it has acted (R132): nothing pressed, no audio sink. -/
def HostSide.atReset : HostSide where
  buttons := ⟨false, false, false, false, false, false, false, false⟩
  inputChanged := false
  time := 0
  soundEnabled := false
  sampleSlots := 0
  framesReady := 0
  sinkCalls := []

/-- The host's side after a reset (70_reset R1211, R132): the wall clock, the sound enable and the sink's slots are
the host's inputs and survive; the buttons and `input_changed` take their reset values, and the records of what the
core has handed over begin anew (log 22). -/
def HostSide.afterReset (h : HostSide) : HostSide :=
  { HostSide.atReset with time := h.time, soundEnabled := h.soundEnabled, sampleSlots := h.sampleSlots }

/-- `INIT_RAM` (70_reset R1210): the initial contents of each RAM, one array each.  As R1210 has it, the model takes it
as an argument of reset; `State.reset` fills every array with one byte (log 2). -/
structure InitRam where
  cram : Memory
  vram : Memory
  wram : Memory
  oam : Memory
  wave : Memory
  hram : Memory
  objPal : Memory
deriving DecidableEq, Repr

/-- Every array filled with `v`. -/
def InitRam.filled (v : Byte) : InitRam where
  cram := Memory.empty v
  vram := Memory.empty v
  wram := Memory.empty v
  oam := Memory.empty v
  wave := Memory.empty v
  hram := Memory.empty v
  objPal := Memory.empty v

/-- The state right after `reset` of a machine with parameters `p`, initial RAM contents `ram`, hardware `gbc`, mode
`cgb`, cartridge `cart` and ROM contents `rom`, without a battery dump (R1200 steps 3, 5 and 6; R1201). -/
def State.atReset (p : Params) (ram : InitRam) (gbc cgb : Bool) (cart : Cartridge) (rom : Memory) : State where
  regs := Regs.atReset cgb
  ime := false
  imeArmed := false
  halted := false
  stopped := false
  haltRepeat := false
  counter := 0
  doubleSpeed := false
  fault := none
  running := false
  runEnded := false
  gbcHardware := gbc
  cgbMode := cgb
  cart := cart
  mapper := Mapper.atReset
  rom := rom
  cram := ram.cram
  vram := ram.vram
  wram := ram.wram
  oam := ram.oam
  io := resetIo cgb
  wave := ram.wave
  hram := ram.hram
  ie := 0x00
  bgPal := ⟨0xFF, (List.range 32).map fun k => (2 * k + 1, 0x7F)⟩
  objPal := ram.objPal
  timer := { base := 0, timaBase := 0x00, deadline := none, divBase := 0 }
  serialDeadline := none
  hdma := { active := false, src := 0, dst := 0, remaining := 0 }
  ppu := Ppu.atReset
  apu := Apu.atReset
  host := HostSide.atReset
  params := p

/-- The machine right after reset with the plainest image there is, 32 KiB of 0x00: header bytes 0x0143, 0x0147,
0x0148 and 0x0149 are 0, so the cartridge has no controller, 2 ROM banks and 1 RAM bank (R301 to R306), and
`cgb_mode` is false (R51).  A program comes in by `Machine.load` (log 3). -/
def State.reset : State :=
  State.atReset Config.params (InitRam.filled Config.initRam) Config.gbcHardware false
    { cartType := 0x00, romBanks := 2, ramBanks := 1 } (Memory.empty 0x00)

end Sys2Proof.Machine
end

