-- ==== Sys2Proof/Machine/Memory.lean ====
section
/-! DEFINITION. The operations on one byte array in its canonical form: what an unlisted address reads as is
`Memory.fill`, and a write of that value removes the entry. -/

namespace Sys2Proof.Machine

/-- The byte listed for address `k`, if any. -/
def lookupCell : List Host.Cell → Nat → Option Byte
  | [], _ => none
  | (k, v) :: rest, a => if k = a then some v else lookupCell rest a

/-- The list with `v` at address `a`, put where rising order wants it. -/
def insertCell : List Host.Cell → Nat → Byte → List Host.Cell
  | [], a, v => [(a, v)]
  | (k, w) :: rest, a, v =>
    if a < k then (a, v) :: (k, w) :: rest
    else if a = k then (a, v) :: rest
    else (k, w) :: insertCell rest a v

/-- The list without address `a`. -/
def eraseCell : List Host.Cell → Nat → List Host.Cell
  | [], _ => []
  | (k, w) :: rest, a => if k = a then eraseCell rest a else (k, w) :: eraseCell rest a

/-- The byte at address `a`. -/
def Memory.read (m : Memory) (a : Nat) : Byte := (lookupCell m.cells a).getD m.fill

/-- The array with `v` at address `a`. -/
def Memory.write (m : Memory) (a : Nat) (v : Byte) : Memory :=
  if v = m.fill then { m with cells := eraseCell m.cells a }
  else { m with cells := insertCell m.cells a v }

/-- Addresses strictly rising. -/
def risingCells : List Host.Cell → Bool
  | [] => true
  | [_] => true
  | x :: y :: rest => decide (x.1 < y.1) && risingCells (y :: rest)

/-- The canonical form: addresses strictly rising, and no entry equal to what an unlisted address reads as. -/
def Memory.wf (m : Memory) : Bool := risingCells m.cells && m.cells.all fun x => x.2 != m.fill

/-- The cells of a list of bytes from address `at` on, those equal to `fill` left out. -/
def cellsOfBytes (fill : Byte) : Nat → List Byte → List Host.Cell
  | _, [] => []
  | k, v :: rest => if v = fill then cellsOfBytes fill (k + 1) rest else (k, v) :: cellsOfBytes fill (k + 1) rest

/-- The array that holds the bytes at addresses 0, 1, 2, … -/
def Memory.ofBytes (fill : Byte) (bytes : List Byte) : Memory := ⟨fill, cellsOfBytes fill 0 bytes⟩

end Sys2Proof.Machine
end

