-- ==== Sys2Proof/Machine/Timer.lean ====
section
/-! DEFINITION. Interrupt requests, the timer and divider, the serial port and the joypad (60_exceptions R1110,
R1150 to R1180). -/

namespace Sys2Proof.Machine

/-- The stored byte of the I/O register at 0xFF00 + `k` (R61). -/
def State.ioByte (s : State) (k : Nat) : Byte := s.io.read k

/-- The I/O register at 0xFF00 + `k` stored as `v`, with no side effect. -/
def State.setIo (s : State) (k : Nat) (v : Byte) : State := { s with io := s.io.write k v }

/-- `RequestIRQ(k)` sets bit `k` of IF (R1110). -/
def requestIrq (s : State) (k : Nat) : State := s.setIo 0x0F (setBit (s.ioByte 0x0F) k true)

/-- The pending and enabled interrupts `IE & IF & 0x1F` (R58, R1120). -/
def pendingIrqs (s : State) : Byte := s.ie &&& s.ioByte 0x0F &&& 0x1F

/-- `timer_active`, TAC bit 2 (R59, R68). -/
def timerActive (tac : Byte) : Bool := bit tac 2

/-- `timer_period`, from TAC bits 1-0 (R68). -/
def timerPeriod (tac : Byte) : Nat :=
  match field tac 1 0 with
  | 0 => 1024
  | 1 => 16
  | 2 => 64
  | _ => 256

/-- `tima(t)`, the TIMA value at time `t` (R1151). -/
def timaAt (s : State) (t : Nat) : Byte :=
  if timerActive (s.ioByte 0x07) then
    BitVec.ofNat 8 (s.timer.timaBase.toNat + (t - s.timer.base) / timerPeriod (s.ioByte 0x07))
  else s.timer.timaBase

/-- DIV at time `t` (R66, R1153). -/
def divAt (s : State) (t : Nat) : Byte := BitVec.ofNat 8 ((t - s.timer.divBase) / 256)

/-- The timer's overflow deadline for base `b` and count `v` under TAC value `tac` (R1150). -/
def timerDeadline (tac : Byte) (b : Nat) (v : Byte) : Option Nat :=
  if timerActive tac then some (b + (256 - v.toNat) * timerPeriod tac) else none

/-- TIMA ← v (R1152). -/
def writeTima (s : State) (v : Byte) : State :=
  let tac := s.ioByte 0x07
  if timerActive tac then
    { s with timer := { s.timer with
        timaBase := v, base := s.counter, deadline := timerDeadline tac s.counter v } }
  else { s with timer := { s.timer with timaBase := v } }

/-- TAC ← v (R1152). -/
def writeTac (s : State) (v : Byte) : State :=
  let t := timaAt s s.counter
  { s.setIo 0x07 v with timer := { s.timer with
      timaBase := t, base := s.counter, deadline := timerDeadline v s.counter t } }

/-- DIV ← any value, and STOP's speed switch (R66, R1152). -/
def resetDiv (s : State) : State := { s with timer := { s.timer with divBase := s.counter } }

/-- The timer overflow event at deadline `d` (R1150). -/
def timerEvent (s : State) (d : Nat) : State :=
  let tma := s.ioByte 0x06
  { requestIrq s 2 with timer := { s.timer with
      timaBase := tma, base := d
      deadline := some (d + (256 - tma.toNat) * timerPeriod (s.ioByte 0x07)) } }

/-- SC ← v (R1170): start a transfer, wait for an external clock, or cancel. -/
def writeSc (s : State) (v : Byte) : State :=
  { s.setIo 0x02 v with
    serialDeadline :=
      if bit v 7 && bit v 0 then some (s.counter + (if s.cgbMode && bit v 1 then 128 else 4096))
      else none }

/-- The completion of a serial transfer (R1170). -/
def serialEvent (s : State) : State :=
  let t := (s.setIo 0x01 0xFF).setIo 0x02 (setBit (s.ioByte 0x02) 7 false)
  { requestIrq t 3 with serialDeadline := none }

/-- Bits 3-0 of JOYP (R63): `line[k] = 0` if a selected group has its k-th key pressed. -/
def joypLines (s : State) : Byte :=
  let p := s.ioByte 0x00
  let b := s.host.buttons
  let pad := !bit p 4
  let btn := !bit p 5
  setBit (setBit (setBit (setBit 0x0F 0 (!(pad && b.right || btn && b.a)))
    1 (!(pad && b.left || btn && b.b)))
    2 (!(pad && b.up || btn && b.select)))
    3 (!(pad && b.down || btn && b.start))

/-- `consume_input()` at the start of a step (R1180). -/
def consumeInput (s : State) : State :=
  if s.host.inputChanged then
    { requestIrq s 4 with host := { s.host with inputChanged := false }, stopped := false }
  else s

end Sys2Proof.Machine
end

