-- ==== Sys2Proof/Machine/Apu.lean ====
section
/-! DEFINITION. The APU: register side effects, counters, generators, the frame tick and the mixer (55_apu R1000 to
R1084).  Nothing in the APU changes between frame ticks except by register writes. -/

namespace Sys2Proof.Machine

/-- The APU is powered on: NR52 bit 7 (R1014). -/
def apuOn (s : State) : Bool := bit (s.ioByte 0x26) 7

/-- The DAC of channels 1, 2 and 4 is on iff `NRx2 & 0xF8 != 0` (R1011). -/
def envDacOn (nrx2 : Byte) : Bool := nrx2 &&& 0xF8 != 0

/-- The DAC of channel 3 is on iff NR30 bit 7 = 1 (R1011). -/
def waveDacOn (nr30 : Byte) : Bool := bit nr30 7

/-- An 11-bit frequency value from NRx3 and NRx4 bits 2-0 (R73, R74, R1001). -/
def freqOf (nrx3 nrx4 : Byte) : Nat := field nrx4 2 0 * 256 + nrx3.toNat

/-- x1 (R1001). -/
def freq1 (s : State) : Nat := freqOf (s.ioByte 0x13) (s.ioByte 0x14)

/-- x2 (R1001). -/
def freq2 (s : State) : Nat := freqOf (s.ioByte 0x18) (s.ioByte 0x19)

/-- x3 (R1001). -/
def freq3 (s : State) : Nat := freqOf (s.ioByte 0x1D) (s.ioByte 0x1E)

/-- `sweep_calc()` from NR10 and the shadow frequency (R1035). -/
def sweepCalc (nr10 : Byte) (shadow : Nat) : Nat :=
  let d := shadow / 2 ^ field nr10 2 0
  if bit nr10 3 then shadow - d else shadow + d

/-- The trigger of one channel (R1012): enabled iff its DAC is on, a spent length reloaded, the phase cleared. -/
def triggerChannel (ch : Channel) (dacOn : Bool) (full : Nat) : Channel :=
  { ch with enabled := dacOn, length := if ch.length = 0 then full else ch.length, phase := 0 }

/-- The envelope's trigger (R1012). -/
def triggerEnvelope (nrx2 : Byte) : Envelope := ⟨field nrx2 7 4, 0⟩

/-- NR14 with bit 7 = 1 (R1012). -/
def trigger1 (s : State) : State :=
  let nr10 := s.ioByte 0x10
  let ch := triggerChannel s.apu.ch1 (envDacOn (s.ioByte 0x12)) 64
  let tooHigh := decide (field nr10 2 0 ≠ 0) && decide (sweepCalc nr10 (freq1 s) > 2047)
  { s with apu := { s.apu with
      ch1 := { ch with enabled := ch.enabled && !tooHigh }
      env1 := triggerEnvelope (s.ioByte 0x12)
      shadowFreq := freq1 s, sweepTimer := 0 } }

/-- NR24 with bit 7 = 1 (R1012). -/
def trigger2 (s : State) : State :=
  { s with apu := { s.apu with
      ch2 := triggerChannel s.apu.ch2 (envDacOn (s.ioByte 0x17)) 64
      env2 := triggerEnvelope (s.ioByte 0x17) } }

/-- NR34 with bit 7 = 1 (R1012). -/
def trigger3 (s : State) : State :=
  { s with apu := { s.apu with ch3 := triggerChannel s.apu.ch3 (waveDacOn (s.ioByte 0x1A)) 256 } }

/-- NR44 with bit 7 = 1 (R1012). -/
def trigger4 (s : State) : State :=
  { s with apu := { s.apu with
      ch4 := triggerChannel s.apu.ch4 (envDacOn (s.ioByte 0x21)) 64
      env4 := triggerEnvelope (s.ioByte 0x21), lfsr := 0x7FFF } }

/-- What a write of `v` to NRx4 does to its channel before the trigger (R1001, R1012). -/
def Channel.withLengthEnable (ch : Channel) (v : Byte) : Channel := { ch with lengthEnable := bit v 6 }

/-- A write that leaves the DAC off disables the channel (R1011). -/
def Channel.afterDac (ch : Channel) (dacOn : Bool) : Channel := { ch with enabled := ch.enabled && dacOn }

/-- The effect of a write to the sound register 0xFF00 + `k`, after the byte has been stored (R1001). -/
def soundEffect (s : State) (k : Nat) (v : Byte) : State :=
  let a := s.apu
  match k with
  | 0x11 => { s with apu := { a with ch1 := { a.ch1 with length := 64 - field v 5 0 } } }
  | 0x12 => { s with apu := { a with ch1 := a.ch1.afterDac (envDacOn v) } }
  | 0x14 =>
    let t := { s with apu := { a with ch1 := a.ch1.withLengthEnable v } }
    if bit v 7 then trigger1 t else t
  | 0x16 => { s with apu := { a with ch2 := { a.ch2 with length := 64 - field v 5 0 } } }
  | 0x17 => { s with apu := { a with ch2 := a.ch2.afterDac (envDacOn v) } }
  | 0x19 =>
    let t := { s with apu := { a with ch2 := a.ch2.withLengthEnable v } }
    if bit v 7 then trigger2 t else t
  | 0x1A => { s with apu := { a with ch3 := a.ch3.afterDac (waveDacOn v) } }
  | 0x1B => { s with apu := { a with ch3 := { a.ch3 with length := 256 - v.toNat } } }
  | 0x1E =>
    let t := { s with apu := { a with ch3 := a.ch3.withLengthEnable v } }
    if bit v 7 then trigger3 t else t
  | 0x20 => { s with apu := { a with ch4 := { a.ch4 with length := 64 - field v 5 0 } } }
  | 0x21 => { s with apu := { a with ch4 := a.ch4.afterDac (envDacOn v) } }
  | 0x23 =>
    let t := { s with apu := { a with ch4 := a.ch4.withLengthEnable v } }
    if bit v 7 then trigger4 t else t
  | _ => s

/-- A CPU write to a sound register 0xFF10..0xFF25 (R1001): ignored while the APU is off (R1014). -/
def writeSound (s : State) (k : Nat) (v : Byte) : State :=
  if apuOn s then soundEffect (s.setIo k v) k v else s

/-- The unused addresses between the sound registers, 0xFF15 and 0xFF1F (R75, R82, R121). -/
def soundGap (k : Nat) : Bool := k == 0x15 || k == 0x1F

/-- The sound registers among the first `n` addresses from 0xFF10 on set to 0x00 (R1014; the unused addresses are no
registers, log 19). -/
def clearSoundRegs : Nat → Memory → Memory
  | 0, m => m
  | n + 1, m =>
    let t := clearSoundRegs n m
    if soundGap (0x10 + n) then t else t.write (0x10 + n) 0x00

/-- Powering off (R1014): a channel loses its enable, length and length enable. -/
def Channel.powerOff (ch : Channel) : Channel :=
  { ch with enabled := false, length := 0, lengthEnable := false }

/-- NR52 ← v (R1014): only bit 7 is stored; a change from on to off powers the APU off. -/
def writeNr52 (s : State) (v : Byte) : State :=
  let t := s.setIo 0x26 (setBit (s.ioByte 0x26) 7 (bit v 7))
  if apuOn s && !bit v 7 then
    { t with
      io := clearSoundRegs 0x16 t.io
      apu := { s.apu with
        ch1 := s.apu.ch1.powerOff, ch2 := s.apu.ch2.powerOff
        ch3 := s.apu.ch3.powerOff, ch4 := s.apu.ch4.powerOff } }
  else t

/-- Bits 3-0 of NR52: the channels' active flags (R88, R1015). -/
def channelFlags (a : Apu) : Byte :=
  setBit (setBit (setBit (setBit 0 0 a.ch1.enabled) 1 a.ch2.enabled) 2 a.ch3.enabled) 3 a.ch4.enabled

/-! ## Counters -/

/-- One length tick (R1020). -/
def Channel.lengthTick (ch : Channel) : Channel :=
  if ch.lengthEnable && decide (ch.length > 0) then
    { ch with length := ch.length - 1, enabled := ch.enabled && decide (ch.length - 1 ≠ 0) }
  else ch

/-- One envelope tick of a channel with envelope register `nrx2` (R1030). -/
def Envelope.tick (e : Envelope) (enabled : Bool) (nrx2 : Byte) : Envelope :=
  let n := field nrx2 2 0
  if enabled && decide (n ≠ 0) then
    if e.timer + 1 ≥ n then
      { volume :=
          if bit nrx2 3 then (if e.volume < 15 then e.volume + 1 else e.volume) else e.volume - 1
        timer := 0 }
    else { e with timer := e.timer + 1 }
  else e

/-- Step 2 of the frame tick: the length counters (R1020). -/
def lengthTicks (s : State) : State :=
  { s with apu := { s.apu with
      ch1 := s.apu.ch1.lengthTick, ch2 := s.apu.ch2.lengthTick
      ch3 := s.apu.ch3.lengthTick, ch4 := s.apu.ch4.lengthTick } }

/-- Step 3 of the frame tick: the envelopes (R1030). -/
def envelopeTicks (s : State) : State :=
  { s with apu := { s.apu with
      env1 := s.apu.env1.tick s.apu.ch1.enabled (s.ioByte 0x12)
      env2 := s.apu.env2.tick s.apu.ch2.enabled (s.ioByte 0x17)
      env4 := s.apu.env4.tick s.apu.ch4.enabled (s.ioByte 0x21) } }

/-- The sweep's update when its timer runs out (R1035). -/
def sweepUpdate (s : State) : State :=
  let nr10 := s.ioByte 0x10
  let f := sweepCalc nr10 s.apu.shadowFreq
  let t := { s with apu := { s.apu with sweepTimer := 0 } }
  if f > 2047 then { t with apu := { t.apu with ch1 := { t.apu.ch1 with enabled := false } } }
  else if field nr10 2 0 ≠ 0 then
    let u := { t with apu := { t.apu with shadowFreq := f } }
    (u.setIo 0x13 (BitVec.ofNat 8 f)).setIo 0x14 (mergeBits (u.ioByte 0x14) (BitVec.ofNat 8 (f / 256)) 0x07)
  else t

/-- Step 4 of the frame tick: the sweep of channel 1 (R1035). -/
def sweepTick (s : State) : State :=
  let period := field (s.ioByte 0x10) 6 4
  if s.apu.ch1.enabled && decide (period ≠ 0) then
    if s.apu.sweepTimer + 1 ≥ period then sweepUpdate s
    else { s with apu := { s.apu with sweepTimer := s.apu.sweepTimer + 1 } }
  else s

/-! ## Generators -/

/-- `frac(q)`. -/
def frac (q : Rat) : Rat := q - (q.floor : Rat)

/-- The phase after one output sample of a generator with frequency `f` (R1040). -/
def nextPhase (s : State) (phase f : Rat) : Rat := frac (phase + f / (s.params.sampleRate : Rat))

/-- The step `i` of duty pattern `duty` is 1 (R1040). -/
def dutyBit (duty i : Nat) : Bool :=
  match duty with
  | 0 => decide (i = 7)
  | 1 => decide (i = 0 ∨ i = 7)
  | 2 => decide (i = 0 ∨ 5 ≤ i)
  | _ => decide (1 ≤ i ∧ i ≤ 6)

/-- One sample of a pulse channel (R1040): the level and the channel after it. -/
def pulseSample (s : State) (ch : Channel) (e : Envelope) (nrx1 : Byte) (x : Nat) : Nat × Channel :=
  let i := (ch.phase * 8).floor.toNat
  let d := if dutyBit (field nrx1 7 6) i then e.volume else 0
  (d, { ch with phase := nextPhase s ch.phase (131072 / ((2048 - x : Nat) : Rat)) })

/-- The output shift of channel 3 (R80, R1045). -/
def waveShift (nr32 : Byte) : Nat :=
  match field nr32 6 5 with
  | 0 => 4
  | 1 => 0
  | 2 => 1
  | _ => 2

/-- Sample `i` of wave RAM: the high nibble first (R90, R1045). -/
def waveNibble (s : State) (i : Nat) : Nat :=
  let b := s.wave.read (i / 2)
  if i % 2 = 0 then field b 7 4 else field b 3 0

/-- One sample of channel 3 (R1045). -/
def waveSample (s : State) (ch : Channel) : Nat × Channel :=
  let i := (ch.phase * 32).floor.toNat
  (waveNibble s i / 2 ^ waveShift (s.ioByte 0x1C),
    { ch with phase := nextPhase s ch.phase (65536 / ((2048 - freq3 s : Nat) : Rat)) })

/-- One LFSR step; `w` selects the 7-bit register (R1050). -/
def lfsrStep (w : Bool) (x : BitVec 15) : BitVec 15 :=
  let b := x.getLsbD 0 ^^ x.getLsbD 1
  let y := (x >>> 1) ||| (if b then 0x4000 else 0)
  if w then (y &&& ~~~(0x40 : BitVec 15)) ||| (if b then 0x40 else 0) else y

/-- `n` LFSR steps. -/
def lfsrSteps (w : Bool) : Nat → BitVec 15 → BitVec 15
  | 0, x => x
  | n + 1, x => lfsrSteps w n (lfsrStep w x)

/-- The LFSR clock of channel 4 in Hz (R1050). -/
def noiseFreq (nr43 : Byte) : Rat :=
  let r := field nr43 2 0
  524288 / (if r = 0 then 1 / 2 else (r : Rat)) / (2 ^ (field nr43 7 4 + 1) : Nat)

/-- One sample of channel 4 (R1050): the level is the one before the steps. -/
def noiseSample (s : State) (ch : Channel) : Nat × Channel × BitVec 15 :=
  let nr43 := s.ioByte 0x22
  let d := if s.apu.lfsr.getLsbD 0 then 0 else s.apu.env4.volume
  let q := ch.phase + noiseFreq nr43 / (s.params.sampleRate : Rat)
  (d, { ch with phase := frac q }, lfsrSteps (bit nr43 3) q.floor.toNat s.apu.lfsr)

/-! ## Mixing -/

/-- `wrap8(v) = ((v + 128) mod 256) - 128` (R1082). -/
def wrap8 (v : Int) : Int := (v + 128) % 256 - 128

/-- The levels of one output sample; a channel that is disabled or whose DAC is off has none (R1081). -/
structure Levels where
  d1 : Option Nat
  d2 : Option Nat
  d3 : Option Nat
  d4 : Option Nat
deriving DecidableEq, Repr

/-- The contribution of channel `k` when it is routed (R1081). -/
def contribution (k : Nat) (routed : Bool) (vol : Nat) (d : Option Nat) : Int :=
  match d with
  | some d => if routed then Config.channelAmplitude k d vol else 0
  | none => 0

/-- One output side: the wrapped sum of the routed channels, channel k at bit `base + (k - 1)` of NR51 (R87, R1082). -/
def mixSide (nr51 : Byte) (base vol : Nat) (v : Levels) : Int :=
  wrap8 (contribution 1 (bit nr51 base) vol v.d1 + contribution 2 (bit nr51 (base + 1)) vol v.d2 +
    contribution 3 (bit nr51 (base + 2)) vol v.d3 + contribution 4 (bit nr51 (base + 3)) vol v.d4)

/-- The bytes delivered for one output sample (R1082). -/
def mixSample (s : State) (v : Levels) : List Int :=
  let nr50 := s.ioByte 0x24
  let nr51 := s.ioByte 0x25
  let l := mixSide nr51 4 (field nr50 6 4) v
  let r := mixSide nr51 0 (field nr50 2 0) v
  match s.params.mixFormat with
  | .stereoS8 => [l, r]
  | .monoS8 => [wrap8 (l + r)]

/-- Channel 1's part of one output sample (R1040, R1081): its level if it sounds, and the state after. -/
def sampleCh1 (s : State) : Option Nat × State :=
  if s.apu.ch1.enabled && envDacOn (s.ioByte 0x12) then
    let p := pulseSample s s.apu.ch1 s.apu.env1 (s.ioByte 0x11) (freq1 s)
    (some p.1, { s with apu := { s.apu with ch1 := p.2 } })
  else (none, s)

/-- Channel 2's part of one output sample (R1040, R1081). -/
def sampleCh2 (s : State) : Option Nat × State :=
  if s.apu.ch2.enabled && envDacOn (s.ioByte 0x17) then
    let p := pulseSample s s.apu.ch2 s.apu.env2 (s.ioByte 0x16) (freq2 s)
    (some p.1, { s with apu := { s.apu with ch2 := p.2 } })
  else (none, s)

/-- Channel 3's part of one output sample (R1045, R1081). -/
def sampleCh3 (s : State) : Option Nat × State :=
  if s.apu.ch3.enabled && waveDacOn (s.ioByte 0x1A) then
    let p := waveSample s s.apu.ch3
    (some p.1, { s with apu := { s.apu with ch3 := p.2 } })
  else (none, s)

/-- Channel 4's part of one output sample (R1050, R1081). -/
def sampleCh4 (s : State) : Option Nat × State :=
  if s.apu.ch4.enabled && envDacOn (s.ioByte 0x21) then
    let p := noiseSample s s.apu.ch4
    (some p.1, { s with apu := { s.apu with ch4 := p.2.1, lfsr := p.2.2 } })
  else (none, s)

/-- One output sample (R1082): the bytes for the sink, and the state with every sounding generator advanced. -/
def oneSample (s : State) : List Int × State :=
  let p1 := sampleCh1 s
  let p2 := sampleCh2 p1.2
  let p3 := sampleCh3 p2.2
  let p4 := sampleCh4 p3.2
  (mixSample s ⟨p1.1, p2.1, p3.1, p4.1⟩, p4.2)

/-- `n` output samples in order. -/
def samples : Nat → State → List Int × State
  | 0, s => ([], s)
  | n + 1, s =>
    let p := oneSample s
    let q := samples n p.2
    (p.1 ++ q.1, q.2)

/-- The core calls the host's audio sink (R1190; log 14). -/
def State.callSink (s : State) (c : SinkCall) : State :=
  { s with host := { s.host with sinkCalls := c :: s.host.sinkCalls } }

/-- Step 1 of the frame tick (R1082, R1083): the sink's `availableSampleSlots()` samples are generated and
delivered; with no sink, or sound disabled, none are and no generator moves. -/
def deliverSamples (s : State) : State :=
  let n := if s.host.soundEnabled then s.host.sampleSlots else 0
  if n = 0 then s
  else
    let p := samples n s
    p.2.callSink (.write p.1)

/-- `apu_frame_tick()` (R1060): deliver, then length, envelope and sweep; nothing while powered off. -/
def apuFrameTick (s : State) : State :=
  if apuOn s then sweepTick (envelopeTicks (lengthTicks (deliverSamples s))) else s

end Sys2Proof.Machine
end

