-- ==== Sys2Proof/Machine/Cartridge.lean ====
section
/-! DEFINITION. The cartridge: header fields, controller kinds, bank mapping, controller writes, cartridge RAM and
the RTC (25_cartridge R300 to R363). -/

namespace Sys2Proof.Machine

/-- The controller kinds (R306). -/
inductive CartKind where
  | none
  | mbc1
  | mbc2
  | mbc3
  | mbc5
deriving DecidableEq, Repr

/-- The kind of a `CART_TYPE`; `none` (absent) for a type that is refused at load (R306). -/
def cartKindOf (t : Byte) : Option CartKind :=
  if t = 0x00 ∨ t = 0x08 ∨ t = 0x09 then some .none
  else if t = 0x01 ∨ t = 0x02 ∨ t = 0x03 then some .mbc1
  else if t = 0x05 ∨ t = 0x06 then some .mbc2
  else if t = 0x0F ∨ t = 0x10 ∨ t = 0x11 ∨ t = 0x12 ∨ t = 0x13 then some .mbc3
  else if t = 0x19 ∨ t = 0x1A ∨ t = 0x1B ∨ t = 0x1C ∨ t = 0x1D ∨ t = 0x1E then some .mbc5
  else none

/-- The kind of a loaded cartridge (a type R306 refuses never loads; it would act as no controller). -/
def Cartridge.kind (c : Cartridge) : CartKind := (cartKindOf c.cartType).getD .none

/-- Types 0x08 and 0x09: no controller, RAM always enabled (R306). -/
def Cartridge.plainRam (c : Cartridge) : Bool := c.cartType == 0x08 || c.cartType == 0x09

/-- `HAS_RTC` (R306). -/
def Cartridge.hasRtc (c : Cartridge) : Bool := c.cartType == 0x0F || c.cartType == 0x10

/-- `HAS_BATTERY` (R305). -/
def Cartridge.hasBattery (c : Cartridge) : Bool :=
  c.cartType == 0x03 || c.cartType == 0x06 || c.cartType == 0x09 || c.cartType == 0x10 ||
    c.cartType == 0x13 || c.cartType == 0x1B || c.cartType == 0x1E

/-- The MBC5 rumble types 0x1C to 0x1E (R306). -/
def Cartridge.rumble (c : Cartridge) : Bool :=
  c.cartType == 0x1C || c.cartType == 0x1D || c.cartType == 0x1E

/-- `ROM_BANKS` from header byte 0x0148; absent for a code that is refused (R302).  DEDUCED: code 0x08 is refused, as
R302 has it, though a row of 95_test_vectors gives it 512 banks (log 29). -/
def romBanksOf (code : Byte) : Option Nat :=
  if code.toNat < 8 then some (2 * 2 ^ code.toNat)
  else if code = 0x52 then some 72
  else if code = 0x53 then some 80
  else if code = 0x54 then some 96
  else none

/-- `RAM_BANKS` from header byte 0x0149; absent for a code that is refused (R303). -/
def ramBanksOf (code : Byte) : Option Nat :=
  if code = 0x00 ∨ code = 0x01 ∨ code = 0x02 then some 1
  else if code = 0x03 then some 4
  else if code = 0x04 ∨ code = 0x05 ∨ code = 0x06 then some 16
  else none

/-- `rom_hi_bank()`, the bank mapped at 0x4000..0x7FFF before it is reduced (R321, R328, R332, R341, R353, R356). -/
def romHiBank (s : State) : Nat :=
  match s.cart.kind with
  | .none => 1
  | .mbc1 => s.mapper.ramBank * 32 + s.mapper.romBank
  | .mbc2 => s.mapper.romBank
  | .mbc3 => s.mapper.romBank
  | .mbc5 => s.mapper.romBank

/-- The image offset `rom_read(bank, off)` reads (R320): the bank number is reduced modulo `ROM_BANKS`. -/
def romIndex (s : State) (bank off : Nat) : Nat := bank % s.cart.romBanks * 0x4000 + off

/-- `rom_read(bank, off)` (R320). -/
def romRead (s : State) (bank off : Nat) : Byte := s.rom.read (romIndex s bank off)

/-- What the window 0xA000..0xBFFF shows (R323, R330, R341, R343). -/
inductive CartRamTarget where
  /-- Disabled, absent or out of range: reads 0xFF, writes are dropped. -/
  | absent
  /-- A byte of `cram`. -/
  | ram (index : Nat)
  /-- A four-bit cell of MBC2's built-in RAM. -/
  | nibble (index : Nat)
  /-- RTC register `j`, 0..4. -/
  | rtc (j : Nat)
deriving DecidableEq, Repr

/-- Bank `b` of `cram`, if there is one (R323, R341, R354; decision D43). -/
def ramBankTarget (s : State) (b off : Nat) : CartRamTarget :=
  if b < s.cart.ramBanks then .ram (b * 0x2000 + off) else .absent

/-- The byte at offset `off` of the window 0xA000..0xBFFF (R323). -/
def cartRamTarget (s : State) (off : Nat) : CartRamTarget :=
  match s.cart.kind with
  | .none => if s.cart.plainRam then .ram off else .absent
  | .mbc1 =>
    if s.mapper.ramEnabled then ramBankTarget s (if s.mapper.mbc1Mode then s.mapper.ramBank else 0) off
    else .absent
  | .mbc2 => if s.mapper.ramEnabled then .nibble (off % 512) else .absent
  | .mbc3 =>
    if s.mapper.ramEnabled then
      if s.mapper.ramBank < 8 then ramBankTarget s s.mapper.ramBank off
      else if s.cart.hasRtc && decide (s.mapper.ramBank - 8 ≤ 4) then .rtc (s.mapper.ramBank - 8)
      else .absent
    else .absent
  | .mbc5 => if s.mapper.ramEnabled then ramBankTarget s s.mapper.ramBank off else .absent

/-- RTC register `j` (R342). -/
def Rtc.get (r : Rtc) (j : Nat) : Byte :=
  match j with
  | 0 => r.s
  | 1 => r.m
  | 2 => r.h
  | 3 => r.dl
  | _ => r.dh

/-- The write mask of RTC register `j` (R342). -/
def rtcMask (j : Nat) : Byte :=
  match j with
  | 0 => 0x3F
  | 1 => 0x3F
  | 2 => 0x1F
  | 3 => 0xFF
  | _ => 0xC1

/-- RTC register `j` set to `v` through its write mask (R343). -/
def Rtc.set (r : Rtc) (j : Nat) (v : Byte) : Rtc :=
  match j with
  | 0 => { r with s := v &&& rtcMask 0 }
  | 1 => { r with m := v &&& rtcMask 1 }
  | 2 => { r with h := v &&& rtcMask 2 }
  | 3 => { r with dl := v &&& rtcMask 3 }
  | _ => { r with dh := v &&& rtcMask 4 }

/-- One more day (R344): `day = DH[0]:DL`; 512 becomes 0 and sets DH[7]. -/
def Rtc.nextDay (r : Rtc) : Rtc :=
  let day := r.dl.toNat + 256 * (r.dh.toNat % 2) + 1
  if day = 512 then { r with dl := 0, dh := (r.dh &&& 0xFE) ||| 0x80 }
  else { r with dl := BitVec.ofNat 8 day, dh := (r.dh &&& 0xFE) ||| BitVec.ofNat 8 (day / 256) }

/-- One more hour (R344): 24 carries, an out-of-range value wraps at the mask without carrying. -/
def Rtc.nextHour (r : Rtc) : Rtc :=
  if r.h.toNat + 1 = 24 then { r with h := 0 }.nextDay
  else { r with h := BitVec.ofNat 8 ((r.h.toNat + 1) % 32) }

/-- One more minute (R344). -/
def Rtc.nextMinute (r : Rtc) : Rtc :=
  if r.m.toNat + 1 = 60 then { r with m := 0 }.nextHour
  else { r with m := BitVec.ofNat 8 ((r.m.toNat + 1) % 64) }

/-- One tick, an elapsed second (R344): none while DH bit 6 (halt) is 1. -/
def Rtc.tick (r : Rtc) : Rtc :=
  if bit r.dh 6 then r
  else if r.s.toNat + 1 = 60 then { r with s := 0 }.nextMinute
  else { r with s := BitVec.ofNat 8 ((r.s.toNat + 1) % 64) }

/-- `n` ticks. -/
def Rtc.ticks : Nat → Rtc → Rtc
  | 0, r => r
  | n + 1, r => Rtc.ticks n r.tick

/-- Host time units to a second (R362). -/
def rtcUnitsPerSecond : RtcUnit → Nat
  | .seconds => 1
  | .milliseconds => 1000

/-- RTC sync (R345): the whole seconds since `rtc_last_sync` are applied as ticks, and `rtc_last_sync` advances by
the same whole seconds.  DESIGN CHOICE: while `rtc_last_sync` is later than host time (a dump stamped in the future), no
tick is applied and it stays as it is; the spec says nothing of it (log 28). -/
def rtcSync (s : State) : State :=
  let unit := rtcUnitsPerSecond s.params.rtcUnit
  let secs := (s.host.time - s.mapper.rtcLastSync) / unit
  { s with mapper := { s.mapper with
      rtc := Rtc.ticks secs s.mapper.rtc
      rtcLastSync := s.mapper.rtcLastSync + secs * unit } }

/-- `cart_ram_read` at offset `off` (R323, R330, R343).  An RTC read is of the synced RTC (R345); since a read has no
side effect (R213), the sync is stored by the next write, latch or export, to the same effect (log 12,
`Laws.rtcSync_after_read`). -/
def cartRamRead (s : State) (off : Nat) : Byte :=
  match cartRamTarget s off with
  | .absent => 0xFF
  | .ram k => s.cram.read k
  | .nibble k => 0xF0 ||| s.cram.read k
  | .rtc j => (rtcSync s).mapper.rtcLatched.get j ||| ~~~(rtcMask j)

/-- A write of RTC register `j` (R343): sync, store through the mask; a write to S also clears the sub-second
fraction. -/
def rtcWrite (s : State) (j : Nat) (v : Byte) : State :=
  let t := rtcSync s
  { t with mapper := { t.mapper with
      rtc := t.mapper.rtc.set j v
      rtcLastSync := if j = 0 then t.host.time else t.mapper.rtcLastSync } }

/-- `cart_ram_write` at offset `off` (R325, R330, R343). -/
def cartRamWrite (s : State) (off : Nat) (v : Byte) : State :=
  match cartRamTarget s off with
  | .absent => s
  | .ram k => { s with cram := s.cram.write k v }
  | .nibble k => { s with cram := s.cram.write k (v &&& 0x0F) }
  | .rtc j => rtcWrite s j v

/-- RAM enable (R326): only the low nibble 0xA enables. -/
def ramEnableValue (v : Byte) : Bool := v &&& 0x0F == 0x0A

/-- The value written to a bank register that cannot hold 0 (R322). -/
def coerceBank (n : Nat) : Nat := if n = 0 then 1 else n

/-- The controller register MBC1 decodes at `addr` (R327). -/
def mbc1Write (m : Mapper) (addr : Nat) (v : Byte) : Mapper :=
  if addr < 0x2000 then { m with ramEnabled := ramEnableValue v }
  else if addr < 0x4000 then { m with romBank := coerceBank (v &&& 0x1F).toNat }
  else if addr < 0x6000 then { m with ramBank := (v &&& 0x03).toNat }
  else { m with mbc1Mode := bit v 0 }

/-- The controller register MBC2 decodes at `addr` (R331). -/
def mbc2Write (m : Mapper) (addr : Nat) (v : Byte) : Mapper :=
  if addr < 0x4000 then
    if addr.testBit 8 then { m with romBank := coerceBank (v &&& 0x0F).toNat }
    else { m with ramEnabled := ramEnableValue v }
  else m

/-- A write to MBC3's latch range 0x6000..0x7FFF (R340). -/
def mbc3Latch (s : State) (v : Byte) : State :=
  let t :=
    if s.mapper.rtcLatchPrev = 0x00 ∧ v = 0x01 ∧ s.cart.hasRtc = true then
      let u := rtcSync s
      { u with mapper := { u.mapper with rtcLatched := u.mapper.rtc } }
    else s
  { t with mapper := { t.mapper with rtcLatchPrev := v } }

/-- The controller register MBC3 decodes at `addr` below the latch range (R340). -/
def mbc3Write (m : Mapper) (addr : Nat) (v : Byte) : Mapper :=
  if addr < 0x2000 then { m with ramEnabled := ramEnableValue v }
  else if addr < 0x4000 then { m with romBank := coerceBank (v &&& 0x7F).toNat }
  else { m with ramBank := v.toNat }

/-- The controller register MBC5 decodes at `addr` (R352); bank 0 is not coerced. -/
def mbc5Write (m : Mapper) (rumble : Bool) (addr : Nat) (v : Byte) : Mapper :=
  if addr < 0x2000 then { m with ramEnabled := ramEnableValue v }
  else if addr < 0x3000 then { m with romBank := m.romBank / 256 * 256 + v.toNat }
  else if addr < 0x4000 then { m with romBank := v.toNat % 2 * 256 + m.romBank % 256 }
  else if addr < 0x6000 then { m with ramBank := (v &&& (if rumble then 0x07 else 0x0F)).toNat }
  else m

/-- `mbc_write(addr, v)`, a write to 0x0000..0x7FFF (R324, R205). -/
def mbcWrite (s : State) (addr : Nat) (v : Byte) : State :=
  match s.cart.kind with
  | .none => s
  | .mbc1 => { s with mapper := mbc1Write s.mapper addr v }
  | .mbc2 => { s with mapper := mbc2Write s.mapper addr v }
  | .mbc3 =>
    if addr < 0x6000 then { s with mapper := mbc3Write s.mapper addr v } else mbc3Latch s v
  | .mbc5 => { s with mapper := mbc5Write s.mapper s.cart.rumble addr v }

end Sys2Proof.Machine
end

