-- ==== Sys2Proof/Machine/Ppu.lean ====
section
/-! DEFINITION. The PPU's registers: the coincidence check, LCD on and off, and the writes of LCDC, STAT and LYC
(50_ppu R900 to R906). -/

namespace Sys2Proof.Machine

/-- `k`: 2 in double speed, else 1 (R900). -/
def speedFactor (s : State) : Nat := if s.doubleSpeed then 2 else 1

/-- `lcd_on`, LCDC bit 7 (R93, R131). -/
def lcdOn (s : State) : Bool := bit (s.ioByte 0x40) 7

/-- The mode number in STAT bits 1-0 (R94). -/
def PpuMode.number : PpuMode → Nat
  | .hblank => 0
  | .vblank => 1
  | .search => 2
  | .transfer => 3

/-- `RequestIRQ(k)` if `cond`. -/
def requestIrqIf (s : State) (cond : Bool) (k : Nat) : State := if cond then requestIrq s k else s

/-- `lyc_check()` (R904). -/
def lycCheck (s : State) : State :=
  requestIrqIf s (lcdOn s && s.ppu.ly == s.ioByte 0x45 && bit (s.ioByte 0x41) 6) 1

/-- `set_LY(v)` (R904). -/
def setLy (s : State) (v : Byte) : State := lycCheck { s with ppu := { s.ppu with ly := v } }

/-- The LCD switches off at the time of the write (R906). -/
def lcdSwitchOff (s : State) : State :=
  { s with ppu := { s.ppu with
      ly := 0, mode := .hblank, modeDeadline := none
      frameDeadlineOff := some (s.counter + 70224 * speedFactor s) } }

/-- The LCD switches on at the time of the write (R906). -/
def lcdSwitchOn (s : State) : State :=
  { s with ppu := { s.ppu with
      ly := 0, mode := .search, windowLine := 0, frameDeadlineOff := none
      modeDeadline := some (s.counter + 80 * speedFactor s) } }

/-- LCDC ← v (R906): the byte is stored; if bit 7 changed, the LCD switches. -/
def writeLcdc (s : State) (v : Byte) : State :=
  let t := s.setIo 0x40 v
  if lcdOn s && !bit v 7 then lcdSwitchOff t
  else if !lcdOn s && bit v 7 then lcdSwitchOn t
  else t

/-- STAT ← v (R94, R904): bits 6-3 are stored, nothing is requested. -/
def writeStat (s : State) (v : Byte) : State := s.setIo 0x41 (mergeBits (s.ioByte 0x41) v 0x78)

/-- LYC ← v (R904): stored, then the coincidence check. -/
def writeLyc (s : State) (v : Byte) : State := lycCheck (s.setIo 0x45 v)

/-- What STAT reads in bits 2-0: the coincidence flag, and the mode, 0 while the LCD is off (R94). -/
def statLow (s : State) : Byte :=
  setBit 0 2 (s.ppu.ly == s.ioByte 0x45) |||
    (if lcdOn s then BitVec.ofNat 8 (PpuMode.number s.ppu.mode) else 0)

end Sys2Proof.Machine
end

