-- ==== Sys2Proof/Machine/Bus.lean ====
section
/-! DEFINITION. The bus: the address map, the I/O register file's reads and writes, and the two DMA engines
(20_memory R200 to R256, 10_state R61 to R121).  Every access moves one byte and none fails (R212). -/

namespace Sys2Proof.Machine

/-! ## The address map -/

/-- `vram_bank`: VBK bit 0 when `cgb_mode`, else 0 (R127, R206). -/
def vramBank (s : State) : Nat := if s.cgbMode then field (s.ioByte 0x4F) 0 0 else 0

/-- `wram_sel()`: 1 when not `cgb_mode`, else SVBK[2:0] with 0 read as 1 (R127, R208). -/
def wramSel (s : State) : Nat := if s.cgbMode then coerceBank (field (s.ioByte 0x70) 2 0) else 1

/-- What a bus address reaches (R201, R202). -/
inductive Place where
  /-- ROM, by image offset; writes go to the controller. -/
  | rom (index : Nat)
  | vram (index : Nat)
  /-- The window 0xA000..0xBFFF at an offset. -/
  | cartRam (off : Nat)
  | wram (index : Nat)
  | oam (index : Nat)
  /-- An I/O register 0xFF00 + `k`, `k` in 0..0x7F. -/
  | io (k : Nat)
  /-- High RAM 0xFF00 + `k`, `k` in 0x80..0xFE. -/
  | hram (k : Nat)
  | ie
deriving DecidableEq, Repr

/-- The system-RAM byte for an address 0xC000..0xDFFF (R208). -/
def wramIndex (s : State) (a : Nat) : Nat :=
  if a < 0xD000 then a - 0xC000 else wramSel s * 0x1000 + (a - 0xD000)

/-- The address map (R201 to R211), the echo region folded in (R209). -/
def placeOf (s : State) (addr : Word) : Place :=
  let a := addr.toNat
  if a < 0x4000 then .rom (romIndex s 0 a)
  else if a < 0x8000 then .rom (romIndex s (romHiBank s) (a - 0x4000))
  else if a < 0xA000 then .vram (vramBank s * 0x2000 + (a - 0x8000))
  else if a < 0xC000 then .cartRam (a - 0xA000)
  else if a < 0xE000 then .wram (wramIndex s a)
  else if a < 0xFE00 then .wram (wramIndex s (a - 0x2000))
  else if a < 0xFF00 then .oam (a - 0xFE00)
  else if a < 0xFF80 then .io (a - 0xFF00)
  else if a < 0xFFFF then .hram (a - 0xFF00)
  else .ie

/-! ## The I/O register file -/

/-- The CGB-only register addresses (R115); unused addresses when not `cgb_mode` (R121). -/
def cgbOnlyIo (k : Nat) : Bool :=
  k == 0x4D || k == 0x4F || decide (0x51 ≤ k ∧ k ≤ 0x56) || decide (0x68 ≤ k ∧ k ≤ 0x6B) || k == 0x70

/-- The addresses unused in every mode (R121). -/
def unusedIo (k : Nat) : Bool :=
  k == 0x03 || decide (0x08 ≤ k ∧ k ≤ 0x0E) || k == 0x15 || k == 0x1F || decide (0x27 ≤ k ∧ k ≤ 0x2F) ||
    k == 0x4C || k == 0x4E || k == 0x50 || decide (0x57 ≤ k ∧ k ≤ 0x67) ||
    decide (0x6C ≤ k ∧ k ≤ 0x6F) || decide (0x71 ≤ k ∧ k ≤ 0x7F)

/-- The unused I/O addresses of a mode (R121). -/
def ioUnused (cgb : Bool) (k : Nat) : Bool := unusedIo k || (!cgb && cgbOnlyIo k)

/-- The unused and write-only bits of the register 0xFF00 + `k`, which read 1 under `HW` (R62 to R113). -/
def ioReadMask (cgb : Bool) (k : Nat) : Byte :=
  match k with
  | 0x00 => 0xC0
  | 0x02 => if cgb then 0x7C else 0x7E
  | 0x07 => 0xF8
  | 0x0F => 0xE0
  | 0x10 => 0x80
  | 0x11 => 0x3F
  | 0x13 => 0xFF
  | 0x14 => 0xBF
  | 0x16 => 0x3F
  | 0x18 => 0xFF
  | 0x19 => 0xBF
  | 0x1A => 0x7F
  | 0x1B => 0xFF
  | 0x1C => 0x9F
  | 0x1D => 0xFF
  | 0x1E => 0xBF
  | 0x20 => 0xFF
  | 0x23 => 0xBF
  | 0x26 => 0x70
  | 0x41 => 0x80
  | 0x4D => 0x7E
  | 0x4F => 0xFE
  | 0x51 => 0xFF
  | 0x52 => 0xFF
  | 0x53 => 0xFF
  | 0x54 => 0xFF
  | 0x56 => 0x3C
  | 0x68 => 0x40
  | 0x6A => 0x40
  | 0x70 => 0xF8
  | _ => 0x00

/-- The stored byte as a read shows it under `IO_READBACK` (R62). -/
def readback (s : State) (k : Nat) : Byte :=
  match s.params.ioReadback with
  | .hw => s.ioByte k ||| ioReadMask s.cgbMode k
  | .raw => s.ioByte k

/-- HDMA5 as read (R107, R242). -/
def hdma5Read (h : Hdma) : Byte :=
  if h.active then BitVec.ofNat 8 (h.remaining - 1) &&& 0x7F
  else if h.remaining = 0 then 0xFF
  else 0x80 ||| BitVec.ofNat 8 (h.remaining - 1)

/-- The palette index in BCPS or OCPS (R109). -/
def paletteIndex (ps : Byte) : Nat := field ps 5 0

/-- `io_read` of a register that exists: the stored byte, with the computed fields computed (R63 to R113). -/
def ioReadReg (s : State) (k : Nat) : Byte :=
  match k with
  | 0x00 => mergeBits (readback s 0x00) (joypLines s) 0x0F
  | 0x04 => divAt s s.counter
  | 0x05 => timaAt s s.counter
  | 0x26 => mergeBits (readback s 0x26) (channelFlags s.apu) 0x0F
  | 0x41 => mergeBits (readback s 0x41) (statLow s) 0x07
  | 0x44 => s.ppu.ly
  | 0x4D => setBit (readback s 0x4D) 7 s.doubleSpeed
  | 0x55 => hdma5Read s.hdma
  | 0x56 => setBit (readback s 0x56) 1 true
  | 0x69 => s.bgPal.read (paletteIndex (s.ioByte 0x68))
  | 0x6B => s.objPal.read (paletteIndex (s.ioByte 0x6A))
  | k => if 0x30 ≤ k ∧ k ≤ 0x3F then s.wave.read (k - 0x30) else readback s k

/-- `io_read(0xFF00 + k)` for `k` in 0..0x7F (R211); an unused address reads 0xFF under `HW` (R62, R121). -/
def ioRead (s : State) (k : Nat) : Byte :=
  if ioUnused s.cgbMode k then
    match s.params.ioReadback with
    | .hw => 0xFF
    | .raw => s.ioByte k
  else ioReadReg s k

/-! ## The bus read -/

/-- The byte at a place. -/
def readPlace (s : State) (p : Place) : Byte :=
  match p with
  | .rom k => s.rom.read k
  | .vram k => s.vram.read k
  | .cartRam off => cartRamRead s off
  | .wram k => s.wram.read k
  | .oam k => s.oam.read k
  | .io k => ioRead s k
  | .hram k => s.hram.read k
  | .ie => s.ie

/-- `MemRead(addr, 1)` (R201).  A read changes no state (R213). -/
def memRead (s : State) (addr : Word) : Byte := readPlace s (placeOf s addr)

/-! ## The DMA engines -/

/-- The first `n` byte copies of an OAM DMA from page `v`, in order (R240). -/
def oamDma (v : Byte) : Nat → State → State
  | 0, s => s
  | n + 1, s =>
    let t := oamDma v n s
    { t with oam := t.oam.write n (memRead t (joinWord v 0 + BitVec.ofNat 16 n)) }

/-- The VRAM byte the `i`-th byte of an HDMA block goes to (R242); the offset stays inside the bank (log 23). -/
def hdmaTarget (s : State) (i : Nat) : Nat :=
  vramBank s * 0x2000 + (s.hdma.dst.toNat % 0x2000 + i) % 0x2000

/-- The first `n` byte copies of an HDMA block, in order (R242). -/
def hdmaCopy : Nat → State → State
  | 0, s => s
  | n + 1, s =>
    let t := hdmaCopy n s
    { t with vram := t.vram.write (hdmaTarget t n) (memRead t (t.hdma.src + BitVec.ofNat 16 n)) }

/-- `copy_block()` (R242). -/
def hdmaBlock (s : State) : State :=
  let t := hdmaCopy 16 s
  let left := if t.hdma.active then t.hdma.remaining - 1 else t.hdma.remaining
  { t with hdma :=
    { src := t.hdma.src + 16
      dst := 0x8000 ||| ((t.hdma.dst + 16) &&& 0x1FF0)
      remaining := left
      active := t.hdma.active && decide (left ≠ 0) } }

/-- `n` blocks (R242). -/
def hdmaBlocks : Nat → State → State
  | 0, s => s
  | n + 1, s => hdmaBlocks n (hdmaBlock s)

/-- HDMA5 ← v (R107, R242): stop an HBlank transfer, run a general-purpose one, or start an HBlank one. -/
def writeHdma5 (s : State) (v : Byte) : State :=
  let n := field v 6 0 + 1
  if s.hdma.active && !bit v 7 then { s with hdma := { s.hdma with active := false } }
  else if !bit v 7 then
    let t := hdmaBlocks n s
    { t with hdma := { t.hdma with remaining := 0 } }
  else { s with hdma := { s.hdma with remaining := n, active := true } }

/-- `hdma_src` from HDMA1 and HDMA2 (R105). -/
def hdmaSource (s : State) : Word := joinWord (s.ioByte 0x51) (s.ioByte 0x52 &&& 0xF0)

/-- `hdma_dst` from HDMA3 and HDMA4 (R106). -/
def hdmaDest (s : State) : Word := 0x8000 ||| joinWord (s.ioByte 0x53 &&& 0x1F) (s.ioByte 0x54 &&& 0xF0)

/-- A write of HDMA1 or HDMA2 updates `hdma_src` while inactive (R241; log 11). -/
def writeHdmaSrc (s : State) (k : Nat) (v : Byte) : State :=
  let t := s.setIo k v
  if t.hdma.active then t else { t with hdma := { t.hdma with src := hdmaSource t } }

/-- A write of HDMA3 or HDMA4 updates `hdma_dst` (R241; log 11). -/
def writeHdmaDst (s : State) (k : Nat) (v : Byte) : State :=
  let t := s.setIo k v
  { t with hdma := { t.hdma with dst := hdmaDest t } }

/-! ## I/O writes -/

/-- The index register after a palette data write: `i <- (i + 1) mod 64` if bit 7 = 1 (R110). -/
def paletteAdvance (ps : Byte) : Byte :=
  if bit ps 7 then mergeBits ps (BitVec.ofNat 8 ((paletteIndex ps + 1) % 64)) 0x3F else ps

/-- BCPD ← v (R110). -/
def writeBcpd (s : State) (v : Byte) : State :=
  { s.setIo 0x68 (paletteAdvance (s.ioByte 0x68)) with
    bgPal := s.bgPal.write (paletteIndex (s.ioByte 0x68)) v }

/-- OCPD ← v (R111). -/
def writeOcpd (s : State) (v : Byte) : State :=
  { s.setIo 0x6A (paletteAdvance (s.ioByte 0x6A)) with
    objPal := s.objPal.write (paletteIndex (s.ioByte 0x6A)) v }

/-- `io_write` of a register that exists: what it stores and its side effect (R63 to R113, R214). -/
def ioWriteReg (s : State) (k : Nat) (v : Byte) : State :=
  match k with
  | 0x00 => s.setIo 0x00 (mergeBits (s.ioByte 0x00) v 0x30)
  | 0x02 => writeSc s v
  | 0x04 => resetDiv s
  | 0x05 => writeTima s v
  | 0x07 => writeTac s v
  | 0x26 => writeNr52 s v
  | 0x40 => writeLcdc s v
  | 0x41 => writeStat s v
  | 0x44 => s
  | 0x45 => writeLyc s v
  | 0x46 => oamDma v 160 (s.setIo 0x46 v)
  | 0x51 => writeHdmaSrc s 0x51 v
  | 0x52 => writeHdmaSrc s 0x52 v
  | 0x53 => writeHdmaDst s 0x53 v
  | 0x54 => writeHdmaDst s 0x54 v
  | 0x55 => writeHdma5 s v
  | 0x69 => writeBcpd s v
  | 0x6B => writeOcpd s v
  | k =>
    if 0x10 ≤ k ∧ k ≤ 0x25 then writeSound s k v
    else if 0x30 ≤ k ∧ k ≤ 0x3F then { s with wave := s.wave.write (k - 0x30) v }
    else s.setIo k v

/-- `io_write(0xFF00 + k, v)` for `k` in 0..0x7F (R211).  An unused address ignores the write under `HW` and
stores it under `RAW` (R62, R121), but for the two between the sound registers while the APU is off, which ignores
every write to 0xFF10..0xFF25 (R1001, R1014; log 19). -/
def ioWrite (s : State) (k : Nat) (v : Byte) : State :=
  if ioUnused s.cgbMode k then
    match s.params.ioReadback with
    | .hw => s
    | .raw => if 0x10 ≤ k ∧ k ≤ 0x25 then writeSound s k v else s.setIo k v
  else ioWriteReg s k v

/-! ## The bus write -/

/-- The write of `v` to a place; `addr` is the bus address, for the controller registers (R202). -/
def writePlace (s : State) (addr : Word) (v : Byte) (p : Place) : State :=
  match p with
  | .rom _ => mbcWrite s addr.toNat v
  | .vram k => { s with vram := s.vram.write k v }
  | .cartRam off => cartRamWrite s off v
  | .wram k => { s with wram := s.wram.write k v }
  | .oam k => { s with oam := s.oam.write k v }
  | .io k => ioWrite s k v
  | .hram k => { s with hram := s.hram.write k v }
  | .ie => { s with ie := v }

/-- `MemWrite(addr, 1, v)` (R202). -/
def memWrite (s : State) (addr : Word) (v : Byte) : State := writePlace s addr v (placeOf s addr)

end Sys2Proof.Machine
end

