-- ==== Sys2Proof/Machine/Ops.lean ====
section
/-! DEFINITION. The named operations the meanings are built from: registers and pairs (R50 to R55), fetching, the
two-byte transfers and the stack (00_scope R20, 41_load16 R555, R556), what every instruction does around
its effect, taking an interrupt (60_exceptions R1121), returning from one (45_control R760) and raising
IllegalOpcode (R1130). -/

namespace Sys2Proof.Machine

/-! ## Registers -/

/-- Reads an 8-bit register (R50). -/
def Regs.get8 (g : Regs) (r : R8) : Byte :=
  match r with
  | .b => g.b
  | .c => g.c
  | .d => g.d
  | .e => g.e
  | .h => g.h
  | .l => g.l
  | .a => g.a

/-- Writes an 8-bit register (R50). -/
def Regs.set8 (g : Regs) (r : R8) (v : Byte) : Regs :=
  match r with
  | .b => { g with b := v }
  | .c => { g with c := v }
  | .d => { g with d := v }
  | .e => { g with e := v }
  | .h => { g with h := v }
  | .l => { g with l := v }
  | .a => { g with a := v }

/-- BC (R52). -/
def Regs.bc (g : Regs) : Word := joinWord g.b g.c

/-- DE (R52). -/
def Regs.de (g : Regs) : Word := joinWord g.d g.e

/-- HL (R52). -/
def Regs.hl (g : Regs) : Word := joinWord g.h g.l

/-- AF (R52). -/
def Regs.af (g : Regs) : Word := joinWord g.a g.f

/-- Writes HL (R52). -/
def Regs.setHl (g : Regs) (v : Word) : Regs := { g with h := highByte v, l := lowByte v }

/-- Writes F: F[3:0] is always 0 (R55). -/
def Regs.setF (g : Regs) (v : Byte) : Regs := { g with f := v &&& 0xF0 }

/-- Reads rp[p] (R404). -/
def Regs.getRp (g : Regs) (r : Rp) : Word :=
  match r with
  | .bc => g.bc
  | .de => g.de
  | .hl => g.hl
  | .sp => g.sp

/-- Writes rp[p] (R404). -/
def Regs.setRp (g : Regs) (r : Rp) (v : Word) : Regs :=
  match r with
  | .bc => { g with b := highByte v, c := lowByte v }
  | .de => { g with d := highByte v, e := lowByte v }
  | .hl => g.setHl v
  | .sp => { g with sp := v }

/-- Reads rp2[p] (R404). -/
def Regs.getRp2 (g : Regs) (r : Rp2) : Word :=
  match r with
  | .bc => g.bc
  | .de => g.de
  | .hl => g.hl
  | .af => g.af

/-- Writes rp2[p]; AF through `setF` (R557). -/
def Regs.setRp2 (g : Regs) (r : Rp2) (v : Word) : Regs :=
  match r with
  | .bc => { g with b := highByte v, c := lowByte v }
  | .de => { g with d := highByte v, e := lowByte v }
  | .hl => g.setHl v
  | .af => { g with a := highByte v }.setF (lowByte v)

/-- The state with the register file `g`. -/
def State.setRegs (s : State) (g : Regs) : State := { s with regs := g }

/-- `x[r] <- v` for an 8-bit register. -/
def State.set8 (s : State) (r : R8) (v : Byte) : State := s.setRegs (s.regs.set8 r v)

/-- `PC <- v`. -/
def State.setPc (s : State) (v : Word) : State := s.setRegs { s.regs with pc := v }

/-- `SP <- v`. -/
def State.setSp (s : State) (v : Word) : State := s.setRegs { s.regs with sp := v }

/-! ## Two-byte transfers and the stack -/

/-- `MemRead(addr, 2)`, low byte at the lower address (R20, R220). -/
def memRead16 (s : State) (addr : Word) : Word := joinWord (memRead s (addr + 1)) (memRead s addr)

/-- `MemWrite(addr, 2, v)`, the low byte first (R20, R220). -/
def memWrite16 (s : State) (addr : Word) (v : Word) : State :=
  memWrite (memWrite s addr (lowByte v)) (addr + 1) (highByte v)

/-- One byte of a push: SP is decremented, then the byte is written at it (R555). -/
def push8 (s : State) (v : Byte) : State := memWrite (s.setSp (s.regs.sp - 1)) (s.regs.sp - 1) v

/-- `Push16(v)`: the high byte first, at the higher address, as R555's pseudocode and prose have it.  DEDUCED: with
SP = 0x0001 the first write therefore goes to 0x0000, where R555's corner case has it the second (log 31). -/
def push16 (s : State) (v : Word) : State := push8 (push8 s (highByte v)) (lowByte v)

/-- `Pop16()` (R556): the word at SP, and SP two up. -/
def pop16 (s : State) : Word × State := (memRead16 s s.regs.sp, s.setSp (s.regs.sp + 2))

/-! ## Around an instruction -/

/-- The bytes the next instruction is decoded from: the byte at PC and the two after it, or, when the opcode fetch
does not increment PC, the byte at PC twice and the one after it (R405, 46_system R802). -/
def fetchBytes (s : State) : List Byte :=
  let pc := s.regs.pc
  if s.haltRepeat then [memRead s pc, memRead s pc, memRead s (pc + 1)]
  else [memRead s pc, memRead s (pc + 1), memRead s (pc + 2)]

/-- PC past an instruction of `len` bytes (R22): `Fetch8` increments PC once a byte, but for an opcode fetch under
`REPEAT_BYTE` (R802), which is then spent. -/
def State.advance (s : State) (len : Nat) : State :=
  { s.setPc (s.regs.pc + BitVec.ofNat 16 (if s.haltRepeat then len - 1 else len)) with haltRepeat := false }

/-- `counter` moved by `n` cycles. -/
def State.addCycles (s : State) (n : Nat) : State := { s with counter := s.counter + n }

/-- An instruction of `len` bytes and `cost` cycles whose effect is `effect` (R22, R1101): PC is past the
instruction when the effect happens, and the counter moves by the whole cost at its end, so every access
of the effect sees the counter at the instruction's start as `now` (R21). -/
def instruction (len cost : Nat) (effect : State → State) (s : State) : Host.Outcome State Fault Refusal :=
  .next ((effect (s.advance len)).addCycles cost)

/-- A conditional instruction: the effect and `taken` cycles if `cond` holds, else `notTaken` cycles only
(45_control; R1240). -/
def conditional (len taken notTaken : Nat) (cond : Bool) (effect : State → State) (s : State) :
    Host.Outcome State Fault Refusal :=
  if cond then instruction len taken effect s else instruction len notTaken id s

/-! ## Interrupts and the fatal error -/

/-- The vector of interrupt `k` (R1110, R1121). -/
def vectorOf (k : Nat) : Word := BitVec.ofNat 16 (0x40 + 8 * k)

/-- Taking interrupt `k` (R1121): IME cleared, IF[k] cleared, PC pushed, PC at the vector, 20 cycles.  The events
that fall due in those cycles are processed by `dispatch`, after it. -/
def takeInterrupt (k : Nat) (s : State) : State :=
  let t := { s.setIo 0x0F (setBit (s.ioByte 0x0F) k false) with ime := false }
  ((push16 t t.regs.pc).setPc (vectorOf k)).addCycles 20

/-- The return from an interrupt (R760): PC popped, IME set at once. -/
def returnFromInterrupt (s : State) : State :=
  let p := pop16 s
  { p.2.setPc p.1 with ime := true, imeArmed := false }

/-- `raise IllegalOpcode(op, pc0)` (R1130): the fault is recorded, the run ends, nothing else changes; PC stays at
the opcode and the counter where it was. -/
def raiseIllegal (op : Byte) (s : State) : State :=
  { s with fault := some ⟨op, s.regs.pc⟩, running := false }

end Sys2Proof.Machine
end

