-- ==== Sys2Proof/Machine/Flags.lean ====
section
/-! DEFINITION. The flags and every flag computation (10_state R55, R56; 42_alu8 R600 to R603, R634, R636, R638;
43_alu16 R650, R653, R654; 44_rotate_shift_bit R700, R722).  Results are computed exactly in `Nat` or `Int` and
narrowed at the end. -/

namespace Sys2Proof.Machine

/-- The four flags. -/
structure Flags where
  z : Bool
  n : Bool
  h : Bool
  c : Bool
deriving DecidableEq, Repr

/-- F with these flags: Z, N, H, C in bits 7, 6, 5, 4 and 0 below (R55). -/
def Flags.pack (w : Flags) : Byte := setBit (setBit (setBit (setBit 0 7 w.z) 6 w.n) 5 w.h) 4 w.c

/-- The flags in F (R55). -/
def flagsOf (f : Byte) : Flags := ⟨bit f 7, bit f 6, bit f 5, bit f 4⟩

/-- The flags a state holds. -/
def State.flags (s : State) : Flags := flagsOf s.regs.f

/-- Writes all four flags (R55). -/
def State.setFlags (s : State) (w : Flags) : State := s.setRegs (s.regs.setF w.pack)

/-- `cond(cc)` (R750). -/
def condHolds (w : Flags) (cc : Cond) : Bool :=
  match cc with
  | .nz => !w.z
  | .z => w.z
  | .nc => !w.c
  | .c => w.c

/-! ## 8-bit arithmetic and logic -/

/-- `add8(a, b, c)` (R600). -/
def add8 (a b : Byte) (c : Nat) : Byte × Flags :=
  let s := a.toNat + b.toNat + c
  let res := BitVec.ofNat 8 s
  (res, ⟨res == 0, false, decide (a.toNat % 16 + b.toNat % 16 + c ≥ 0x10), decide (s > 0xFF)⟩)

/-- `sub8(a, b, c)` (R601). -/
def sub8 (a b : Byte) (c : Nat) : Byte × Flags :=
  let d : Int := (a.toNat : Int) - b.toNat - c
  let res := BitVec.ofInt 8 d
  (res, ⟨res == 0, true, decide (((a.toNat % 16 : Nat) : Int) - ((b.toNat % 16 : Nat) : Int) - c < 0),
    decide (d < 0)⟩)

/-- `and8(a, b)` (R603). -/
def and8 (a b : Byte) : Byte × Flags := (a &&& b, ⟨a &&& b == 0, false, true, false⟩)

/-- `xor8(a, b)` (R603). -/
def xor8 (a b : Byte) : Byte × Flags := (a ^^^ b, ⟨a ^^^ b == 0, false, false, false⟩)

/-- `or8(a, b)` (R603). -/
def or8 (a b : Byte) : Byte × Flags := (a ||| b, ⟨a ||| b == 0, false, false, false⟩)

/-- `alu[y]` of A and an operand under the old flags (R602): the value A takes, and the flags.  CP discards the
difference (R631). -/
def aluResult (op : AluOp) (old : Flags) (a b : Byte) : Byte × Flags :=
  match op with
  | .add => add8 a b 0
  | .adc => add8 a b (bitNat old.c)
  | .sub => sub8 a b 0
  | .sbc => sub8 a b (bitNat old.c)
  | .and => and8 a b
  | .xor => xor8 a b
  | .or => or8 a b
  | .cp => (a, (sub8 a b 0).2)

/-- INC of an 8-bit operand (R634): C is unchanged. -/
def inc8 (old : Flags) (v : Byte) : Byte × Flags :=
  (v + 1, ⟨v + 1 == 0, false, v &&& 0x0F == 0x0F, old.c⟩)

/-- DEC of an 8-bit operand (R636): C is unchanged. -/
def dec8 (old : Flags) (v : Byte) : Byte × Flags :=
  (v - 1, ⟨v - 1 == 0, true, v &&& 0x0F == 0x00, old.c⟩)

/-- DAA (R638): what is added to A (subtracted when N = 1), and the new C. -/
def daaAdjust (old : Flags) (a : Byte) : Nat × Bool :=
  if old.n then ((if old.c then 0x60 else 0) + (if old.h then 0x06 else 0), old.c)
  else
    let high := old.c || decide (a.toNat > 0x99)
    let low := old.h || decide (a.toNat % 16 > 0x09)
    ((if high then 0x60 else 0) + (if low then 0x06 else 0), high)

/-- DAA (R638): N is unchanged, H is cleared. -/
def daa8 (old : Flags) (a : Byte) : Byte × Flags :=
  let adj := daaAdjust old a
  let res := if old.n then a - BitVec.ofNat 8 adj.1 else a + BitVec.ofNat 8 adj.1
  (res, ⟨res == 0, old.n, false, adj.2⟩)

/-! ## 16-bit arithmetic -/

/-- H after ADD HL,rr (R650), from the OPEN parameter. -/
def add16Half (p : Add16HalfCarry) (oldH : Bool) (hl v : Word) : Bool :=
  match p with
  | .hwBit11 => decide (hl.toNat % 0x1000 + v.toNat % 0x1000 > 0x0FFF)
  | .omitted => oldH
  | .lowByte => decide (hl.toNat % 0x10 + v.toNat % 0x10 > 0x0F)

/-- ADD HL,rr (R653): Z is unchanged. -/
def add16 (p : Add16HalfCarry) (old : Flags) (hl v : Word) : Word × Flags :=
  let s := hl.toNat + v.toNat
  (BitVec.ofNat 16 s, ⟨old.z, false, add16Half p old.h hl v, decide (s > 0xFFFF)⟩)

/-- SP plus a signed displacement (R554, R654): H and C are the unsigned carries of the low-byte sum. -/
def addSpE8 (sp : Word) (e : Byte) : Word × Flags :=
  (sp + sext16 e,
    ⟨false, false, decide (sp.toNat % 0x10 + e.toNat % 0x10 > 0x0F), decide (sp.toNat % 0x100 + e.toNat > 0xFF)⟩)

/-! ## Rotates, shifts and bits -/

/-- The rotate and shift functions of R700: (result, carry out) from the operand and the old carry. -/
def rotate (op : RotOp) (v : Byte) (c : Bool) : Byte × Bool :=
  match op with
  | .rlc => ((v <<< 1) ||| (v >>> 7), bit v 7)
  | .rrc => ((v >>> 1) ||| (v <<< 7), bit v 0)
  | .rl => ((v <<< 1) ||| bitByte c, bit v 7)
  | .rr => ((v >>> 1) ||| (bitByte c <<< 7), bit v 0)
  | .sla => (v <<< 1, bit v 7)
  | .sra => ((v >>> 1) ||| (v &&& 0x80), bit v 0)
  | .swap => ((v <<< 4) ||| (v >>> 4), false)
  | .srl => (v >>> 1, bit v 0)

/-- A CB rotate or shift (R700): Z from the result, N = H = 0, C the carry out. -/
def rotateFlags (op : RotOp) (old : Flags) (v : Byte) : Byte × Flags :=
  let p := rotate op v old.c
  (p.1, ⟨p.1 == 0, false, false, p.2⟩)

/-- BIT b (R722): Z is the complement of the bit, N = 0, H = 1, C unchanged. -/
def bitFlags (old : Flags) (b : BitIx) (v : Byte) : Flags := ⟨!bit v b.toNat, false, true, old.c⟩

/-- RES b (R724). -/
def resBit (b : BitIx) (v : Byte) : Byte := setBit v b.toNat false

/-- SET b (R726). -/
def setBitIx (b : BitIx) (v : Byte) : Byte := setBit v b.toNat true

end Sys2Proof.Machine
end

