-- ==== Sys2Proof/Machine/Operands.lean ====
section
/-! DEFINITION. The operand forms (30_encoding R403, R404; 40_load8's list of addressing modes; 42_alu8 R602;
44_rotate_shift_bit R700). -/

namespace Sys2Proof.Machine

/-- An 8-bit operand: a register, the byte at HL, or an immediate byte. -/
inductive Opnd8 where
  | reg (r : R8)
  | atHL
  | imm (n : Byte)
deriving DecidableEq, Repr

/-- The value of an 8-bit operand (R602, R700): read once, before the operation. -/
def Opnd8.read (o : Opnd8) (s : State) : Byte :=
  match o with
  | .reg r => s.regs.get8 r
  | .atHL => memRead s s.regs.hl
  | .imm n => n

/-- The write-back to an 8-bit operand, `wb(z, v)` (R700); an immediate is never a destination. -/
def Opnd8.write (o : Opnd8) (v : Byte) (s : State) : State :=
  match o with
  | .reg r => s.set8 r v
  | .atHL => memWrite s s.regs.hl v
  | .imm _ => s

/-- The memory operand of a load or store of A (40_load8). -/
inductive MemForm where
  | atBC
  | atDE
  /-- (a16). -/
  | abs (nn : Word)
  /-- (a8), at 0xFF00 + n. -/
  | high (n : Byte)
  /-- (C), at 0xFF00 + C. -/
  | highC
deriving DecidableEq, Repr

/-- The effective address, mod 2^16 (40_load8, R403). -/
def MemForm.addr (m : MemForm) (s : State) : Word :=
  match m with
  | .atBC => s.regs.bc
  | .atDE => s.regs.de
  | .abs nn => nn
  | .high n => joinWord 0xFF n
  | .highC => joinWord 0xFF s.regs.c

end Sys2Proof.Machine
end

