-- ==== Sys2Proof/Machine/Alu16.lean ====
section
/-! DEFINITION. 16-bit arithmetic (43_alu16 R650 to R654). -/

namespace Sys2Proof.Machine

/-- INC rr (R651) and DEC rr (R652): no flag changes. -/
def opStepRp (step : Word) (r : Rp) : State → Host.Outcome State Fault Refusal :=
  instruction 1 8 fun s => s.setRegs (s.regs.setRp r (s.regs.getRp r + step))

/-- ADD HL,rr (R653). -/
def opAddHl (r : Rp) : State → Host.Outcome State Fault Refusal :=
  instruction 1 8 fun s =>
    (s.setRegs (s.regs.setHl (add16 s.params.add16HalfCarry s.flags s.regs.hl (s.regs.getRp r)).1)).setFlags
      (add16 s.params.add16HalfCarry s.flags s.regs.hl (s.regs.getRp r)).2

/-- ADD SP,e8 (R654). -/
def opAddSp (e : Byte) : State → Host.Outcome State Fault Refusal :=
  instruction 2 16 fun s => (s.setSp (addSpE8 s.regs.sp e).1).setFlags (addSpE8 s.regs.sp e).2

/-- INC BC (R651). -/
def exec_inc_bc (s : State) : Host.Outcome State Fault Refusal := opStepRp 1 .bc s

/-- ADD HL,BC (R653). -/
def exec_add_hl_bc (s : State) : Host.Outcome State Fault Refusal := opAddHl .bc s

/-- DEC BC (R652). -/
def exec_dec_bc (s : State) : Host.Outcome State Fault Refusal := opStepRp (-1) .bc s

/-- INC DE (R651). -/
def exec_inc_de (s : State) : Host.Outcome State Fault Refusal := opStepRp 1 .de s

/-- ADD HL,DE (R653). -/
def exec_add_hl_de (s : State) : Host.Outcome State Fault Refusal := opAddHl .de s

/-- DEC DE (R652). -/
def exec_dec_de (s : State) : Host.Outcome State Fault Refusal := opStepRp (-1) .de s

/-- INC HL (R651). -/
def exec_inc_hl (s : State) : Host.Outcome State Fault Refusal := opStepRp 1 .hl s

/-- ADD HL,HL (R653). -/
def exec_add_hl_hl (s : State) : Host.Outcome State Fault Refusal := opAddHl .hl s

/-- DEC HL (R652). -/
def exec_dec_hl (s : State) : Host.Outcome State Fault Refusal := opStepRp (-1) .hl s

/-- INC SP (R651). -/
def exec_inc_sp (s : State) : Host.Outcome State Fault Refusal := opStepRp 1 .sp s

/-- ADD HL,SP (R653). -/
def exec_add_hl_sp (s : State) : Host.Outcome State Fault Refusal := opAddHl .sp s

/-- DEC SP (R652). -/
def exec_dec_sp (s : State) : Host.Outcome State Fault Refusal := opStepRp (-1) .sp s

/-- ADD SP,e8 (R654). -/
def exec_add_sp_e8 (e : Byte) (s : State) : Host.Outcome State Fault Refusal := opAddSp e s

end Sys2Proof.Machine
end

