-- ==== Sys2Proof/Machine/Alu8.lean ====
section
/-! DEFINITION. 8-bit arithmetic and logic (42_alu8 R600 to R641). -/

namespace Sys2Proof.Machine

/-- An accumulator operation (R602, R610 to R633): A and all four flags from `alu[y]`; CP leaves A. -/
def opAlu (len cost : Nat) (op : AluOp) (src : Opnd8) : State → Host.Outcome State Fault Refusal :=
  instruction len cost fun s =>
    (s.set8 .a (aluResult op s.flags s.regs.a (src.read s)).1).setFlags
      (aluResult op s.flags s.regs.a (src.read s)).2

/-- INC of an 8-bit operand (R634, R635). -/
def opInc8 (cost : Nat) (dst : Opnd8) : State → Host.Outcome State Fault Refusal :=
  instruction 1 cost fun s =>
    (dst.write (inc8 s.flags (dst.read s)).1 s).setFlags (inc8 s.flags (dst.read s)).2

/-- DEC of an 8-bit operand (R636, R637). -/
def opDec8 (cost : Nat) (dst : Opnd8) : State → Host.Outcome State Fault Refusal :=
  instruction 1 cost fun s =>
    (dst.write (dec8 s.flags (dst.read s)).1 s).setFlags (dec8 s.flags (dst.read s)).2

/-- DAA (R638). -/
def opDaa : State → Host.Outcome State Fault Refusal :=
  instruction 1 4 fun s => (s.set8 .a (daa8 s.flags s.regs.a).1).setFlags (daa8 s.flags s.regs.a).2

/-- CPL (R639): Z and C are unchanged. -/
def opCpl : State → Host.Outcome State Fault Refusal :=
  instruction 1 4 fun s => (s.set8 .a (s.regs.a ^^^ 0xFF)).setFlags { s.flags with n := true, h := true }

/-- SCF (R640): Z is unchanged. -/
def opScf : State → Host.Outcome State Fault Refusal :=
  instruction 1 4 fun s => s.setFlags { s.flags with n := false, h := false, c := true }

/-- CCF (R641): Z is unchanged. -/
def opCcf : State → Host.Outcome State Fault Refusal :=
  instruction 1 4 fun s => s.setFlags { s.flags with n := false, h := false, c := !s.flags.c }

/-- INC B (R634). -/
def exec_inc_b (s : State) : Host.Outcome State Fault Refusal := opInc8 4 (.reg .b) s

/-- DEC B (R636). -/
def exec_dec_b (s : State) : Host.Outcome State Fault Refusal := opDec8 4 (.reg .b) s

/-- INC C (R634). -/
def exec_inc_c (s : State) : Host.Outcome State Fault Refusal := opInc8 4 (.reg .c) s

/-- DEC C (R636). -/
def exec_dec_c (s : State) : Host.Outcome State Fault Refusal := opDec8 4 (.reg .c) s

/-- INC D (R634). -/
def exec_inc_d (s : State) : Host.Outcome State Fault Refusal := opInc8 4 (.reg .d) s

/-- DEC D (R636). -/
def exec_dec_d (s : State) : Host.Outcome State Fault Refusal := opDec8 4 (.reg .d) s

/-- INC E (R634). -/
def exec_inc_e (s : State) : Host.Outcome State Fault Refusal := opInc8 4 (.reg .e) s

/-- DEC E (R636). -/
def exec_dec_e (s : State) : Host.Outcome State Fault Refusal := opDec8 4 (.reg .e) s

/-- INC H (R634). -/
def exec_inc_h (s : State) : Host.Outcome State Fault Refusal := opInc8 4 (.reg .h) s

/-- DEC H (R636). -/
def exec_dec_h (s : State) : Host.Outcome State Fault Refusal := opDec8 4 (.reg .h) s

/-- DAA (R638). -/
def exec_daa (s : State) : Host.Outcome State Fault Refusal := opDaa s

/-- INC L (R634). -/
def exec_inc_l (s : State) : Host.Outcome State Fault Refusal := opInc8 4 (.reg .l) s

/-- DEC L (R636). -/
def exec_dec_l (s : State) : Host.Outcome State Fault Refusal := opDec8 4 (.reg .l) s

/-- CPL (R639). -/
def exec_cpl (s : State) : Host.Outcome State Fault Refusal := opCpl s

/-- INC (HL) (R635). -/
def exec_inc_atHL (s : State) : Host.Outcome State Fault Refusal := opInc8 12 .atHL s

/-- DEC (HL) (R637). -/
def exec_dec_atHL (s : State) : Host.Outcome State Fault Refusal := opDec8 12 .atHL s

/-- SCF (R640). -/
def exec_scf (s : State) : Host.Outcome State Fault Refusal := opScf s

/-- INC A (R634). -/
def exec_inc_a (s : State) : Host.Outcome State Fault Refusal := opInc8 4 (.reg .a) s

/-- DEC A (R636). -/
def exec_dec_a (s : State) : Host.Outcome State Fault Refusal := opDec8 4 (.reg .a) s

/-- CCF (R641). -/
def exec_ccf (s : State) : Host.Outcome State Fault Refusal := opCcf s

/-- ADD A,B (R610). -/
def exec_add_a_b (s : State) : Host.Outcome State Fault Refusal := opAlu 1 4 .add (.reg .b) s

/-- ADD A,C (R610). -/
def exec_add_a_c (s : State) : Host.Outcome State Fault Refusal := opAlu 1 4 .add (.reg .c) s

/-- ADD A,D (R610). -/
def exec_add_a_d (s : State) : Host.Outcome State Fault Refusal := opAlu 1 4 .add (.reg .d) s

/-- ADD A,E (R610). -/
def exec_add_a_e (s : State) : Host.Outcome State Fault Refusal := opAlu 1 4 .add (.reg .e) s

/-- ADD A,H (R610). -/
def exec_add_a_h (s : State) : Host.Outcome State Fault Refusal := opAlu 1 4 .add (.reg .h) s

/-- ADD A,L (R610). -/
def exec_add_a_l (s : State) : Host.Outcome State Fault Refusal := opAlu 1 4 .add (.reg .l) s

/-- ADD A,(HL) (R611). -/
def exec_add_a_atHL (s : State) : Host.Outcome State Fault Refusal := opAlu 1 8 .add .atHL s

/-- ADD A,A (R610). -/
def exec_add_a_a (s : State) : Host.Outcome State Fault Refusal := opAlu 1 4 .add (.reg .a) s

/-- ADC A,B (R613). -/
def exec_adc_a_b (s : State) : Host.Outcome State Fault Refusal := opAlu 1 4 .adc (.reg .b) s

/-- ADC A,C (R613). -/
def exec_adc_a_c (s : State) : Host.Outcome State Fault Refusal := opAlu 1 4 .adc (.reg .c) s

/-- ADC A,D (R613). -/
def exec_adc_a_d (s : State) : Host.Outcome State Fault Refusal := opAlu 1 4 .adc (.reg .d) s

/-- ADC A,E (R613). -/
def exec_adc_a_e (s : State) : Host.Outcome State Fault Refusal := opAlu 1 4 .adc (.reg .e) s

/-- ADC A,H (R613). -/
def exec_adc_a_h (s : State) : Host.Outcome State Fault Refusal := opAlu 1 4 .adc (.reg .h) s

/-- ADC A,L (R613). -/
def exec_adc_a_l (s : State) : Host.Outcome State Fault Refusal := opAlu 1 4 .adc (.reg .l) s

/-- ADC A,(HL) (R614). -/
def exec_adc_a_atHL (s : State) : Host.Outcome State Fault Refusal := opAlu 1 8 .adc .atHL s

/-- ADC A,A (R613). -/
def exec_adc_a_a (s : State) : Host.Outcome State Fault Refusal := opAlu 1 4 .adc (.reg .a) s

/-- SUB B (R616). -/
def exec_sub_b (s : State) : Host.Outcome State Fault Refusal := opAlu 1 4 .sub (.reg .b) s

/-- SUB C (R616). -/
def exec_sub_c (s : State) : Host.Outcome State Fault Refusal := opAlu 1 4 .sub (.reg .c) s

/-- SUB D (R616). -/
def exec_sub_d (s : State) : Host.Outcome State Fault Refusal := opAlu 1 4 .sub (.reg .d) s

/-- SUB E (R616). -/
def exec_sub_e (s : State) : Host.Outcome State Fault Refusal := opAlu 1 4 .sub (.reg .e) s

/-- SUB H (R616). -/
def exec_sub_h (s : State) : Host.Outcome State Fault Refusal := opAlu 1 4 .sub (.reg .h) s

/-- SUB L (R616). -/
def exec_sub_l (s : State) : Host.Outcome State Fault Refusal := opAlu 1 4 .sub (.reg .l) s

/-- SUB (HL) (R617). -/
def exec_sub_atHL (s : State) : Host.Outcome State Fault Refusal := opAlu 1 8 .sub .atHL s

/-- SUB A (R616). -/
def exec_sub_a (s : State) : Host.Outcome State Fault Refusal := opAlu 1 4 .sub (.reg .a) s

/-- SBC A,B (R619). -/
def exec_sbc_a_b (s : State) : Host.Outcome State Fault Refusal := opAlu 1 4 .sbc (.reg .b) s

/-- SBC A,C (R619). -/
def exec_sbc_a_c (s : State) : Host.Outcome State Fault Refusal := opAlu 1 4 .sbc (.reg .c) s

/-- SBC A,D (R619). -/
def exec_sbc_a_d (s : State) : Host.Outcome State Fault Refusal := opAlu 1 4 .sbc (.reg .d) s

/-- SBC A,E (R619). -/
def exec_sbc_a_e (s : State) : Host.Outcome State Fault Refusal := opAlu 1 4 .sbc (.reg .e) s

/-- SBC A,H (R619). -/
def exec_sbc_a_h (s : State) : Host.Outcome State Fault Refusal := opAlu 1 4 .sbc (.reg .h) s

/-- SBC A,L (R619). -/
def exec_sbc_a_l (s : State) : Host.Outcome State Fault Refusal := opAlu 1 4 .sbc (.reg .l) s

/-- SBC A,(HL) (R620). -/
def exec_sbc_a_atHL (s : State) : Host.Outcome State Fault Refusal := opAlu 1 8 .sbc .atHL s

/-- SBC A,A (R619). -/
def exec_sbc_a_a (s : State) : Host.Outcome State Fault Refusal := opAlu 1 4 .sbc (.reg .a) s

/-- AND B (R622). -/
def exec_and_b (s : State) : Host.Outcome State Fault Refusal := opAlu 1 4 .and (.reg .b) s

/-- AND C (R622). -/
def exec_and_c (s : State) : Host.Outcome State Fault Refusal := opAlu 1 4 .and (.reg .c) s

/-- AND D (R622). -/
def exec_and_d (s : State) : Host.Outcome State Fault Refusal := opAlu 1 4 .and (.reg .d) s

/-- AND E (R622). -/
def exec_and_e (s : State) : Host.Outcome State Fault Refusal := opAlu 1 4 .and (.reg .e) s

/-- AND H (R622). -/
def exec_and_h (s : State) : Host.Outcome State Fault Refusal := opAlu 1 4 .and (.reg .h) s

/-- AND L (R622). -/
def exec_and_l (s : State) : Host.Outcome State Fault Refusal := opAlu 1 4 .and (.reg .l) s

/-- AND (HL) (R623). -/
def exec_and_atHL (s : State) : Host.Outcome State Fault Refusal := opAlu 1 8 .and .atHL s

/-- AND A (R622). -/
def exec_and_a (s : State) : Host.Outcome State Fault Refusal := opAlu 1 4 .and (.reg .a) s

/-- XOR B (R625). -/
def exec_xor_b (s : State) : Host.Outcome State Fault Refusal := opAlu 1 4 .xor (.reg .b) s

/-- XOR C (R625). -/
def exec_xor_c (s : State) : Host.Outcome State Fault Refusal := opAlu 1 4 .xor (.reg .c) s

/-- XOR D (R625). -/
def exec_xor_d (s : State) : Host.Outcome State Fault Refusal := opAlu 1 4 .xor (.reg .d) s

/-- XOR E (R625). -/
def exec_xor_e (s : State) : Host.Outcome State Fault Refusal := opAlu 1 4 .xor (.reg .e) s

/-- XOR H (R625). -/
def exec_xor_h (s : State) : Host.Outcome State Fault Refusal := opAlu 1 4 .xor (.reg .h) s

/-- XOR L (R625). -/
def exec_xor_l (s : State) : Host.Outcome State Fault Refusal := opAlu 1 4 .xor (.reg .l) s

/-- XOR (HL) (R626). -/
def exec_xor_atHL (s : State) : Host.Outcome State Fault Refusal := opAlu 1 8 .xor .atHL s

/-- XOR A (R625). -/
def exec_xor_a (s : State) : Host.Outcome State Fault Refusal := opAlu 1 4 .xor (.reg .a) s

/-- OR B (R628). -/
def exec_or_b (s : State) : Host.Outcome State Fault Refusal := opAlu 1 4 .or (.reg .b) s

/-- OR C (R628). -/
def exec_or_c (s : State) : Host.Outcome State Fault Refusal := opAlu 1 4 .or (.reg .c) s

/-- OR D (R628). -/
def exec_or_d (s : State) : Host.Outcome State Fault Refusal := opAlu 1 4 .or (.reg .d) s

/-- OR E (R628). -/
def exec_or_e (s : State) : Host.Outcome State Fault Refusal := opAlu 1 4 .or (.reg .e) s

/-- OR H (R628). -/
def exec_or_h (s : State) : Host.Outcome State Fault Refusal := opAlu 1 4 .or (.reg .h) s

/-- OR L (R628). -/
def exec_or_l (s : State) : Host.Outcome State Fault Refusal := opAlu 1 4 .or (.reg .l) s

/-- OR (HL) (R629). -/
def exec_or_atHL (s : State) : Host.Outcome State Fault Refusal := opAlu 1 8 .or .atHL s

/-- OR A (R628). -/
def exec_or_a (s : State) : Host.Outcome State Fault Refusal := opAlu 1 4 .or (.reg .a) s

/-- CP B (R631). -/
def exec_cp_b (s : State) : Host.Outcome State Fault Refusal := opAlu 1 4 .cp (.reg .b) s

/-- CP C (R631). -/
def exec_cp_c (s : State) : Host.Outcome State Fault Refusal := opAlu 1 4 .cp (.reg .c) s

/-- CP D (R631). -/
def exec_cp_d (s : State) : Host.Outcome State Fault Refusal := opAlu 1 4 .cp (.reg .d) s

/-- CP E (R631). -/
def exec_cp_e (s : State) : Host.Outcome State Fault Refusal := opAlu 1 4 .cp (.reg .e) s

/-- CP H (R631). -/
def exec_cp_h (s : State) : Host.Outcome State Fault Refusal := opAlu 1 4 .cp (.reg .h) s

/-- CP L (R631). -/
def exec_cp_l (s : State) : Host.Outcome State Fault Refusal := opAlu 1 4 .cp (.reg .l) s

/-- CP (HL) (R632). -/
def exec_cp_atHL (s : State) : Host.Outcome State Fault Refusal := opAlu 1 8 .cp .atHL s

/-- CP A (R631). -/
def exec_cp_a (s : State) : Host.Outcome State Fault Refusal := opAlu 1 4 .cp (.reg .a) s

/-- ADD A,d8 (R612). -/
def exec_add_a_d8 (n : Byte) (s : State) : Host.Outcome State Fault Refusal := opAlu 2 8 .add (.imm n) s

/-- ADC A,d8 (R615). -/
def exec_adc_a_d8 (n : Byte) (s : State) : Host.Outcome State Fault Refusal := opAlu 2 8 .adc (.imm n) s

/-- SUB d8 (R618). -/
def exec_sub_d8 (n : Byte) (s : State) : Host.Outcome State Fault Refusal := opAlu 2 8 .sub (.imm n) s

/-- SBC A,d8 (R621). -/
def exec_sbc_a_d8 (n : Byte) (s : State) : Host.Outcome State Fault Refusal := opAlu 2 8 .sbc (.imm n) s

/-- AND d8 (R624). -/
def exec_and_d8 (n : Byte) (s : State) : Host.Outcome State Fault Refusal := opAlu 2 8 .and (.imm n) s

/-- XOR d8 (R627). -/
def exec_xor_d8 (n : Byte) (s : State) : Host.Outcome State Fault Refusal := opAlu 2 8 .xor (.imm n) s

/-- OR d8 (R630). -/
def exec_or_d8 (n : Byte) (s : State) : Host.Outcome State Fault Refusal := opAlu 2 8 .or (.imm n) s

/-- CP d8 (R633). -/
def exec_cp_d8 (n : Byte) (s : State) : Host.Outcome State Fault Refusal := opAlu 2 8 .cp (.imm n) s

end Sys2Proof.Machine
end

