-- ==== Sys2Proof/Machine/Control.lean ====
section
/-! DEFINITION. Control transfer (45_control R750 to R761).  No flag changes; a target is any 16-bit address. -/

namespace Sys2Proof.Machine

/-- PC and a signed displacement, from the address after the instruction (R754). -/
def jumpRelative (e : Byte) (s : State) : State := s.setPc (s.regs.pc + sext16 e)

/-- `Push16(PC); PC <- nn` (R756). -/
def callTo (nn : Word) (s : State) : State := (push16 s s.regs.pc).setPc nn

/-- `PC <- Pop16()` (R758). -/
def returnTo (s : State) : State := (pop16 s).2.setPc (pop16 s).1

/-- JP a16 (R751). -/
def opJp (nn : Word) : State → Host.Outcome State Fault Refusal :=
  instruction 3 16 fun s => s.setPc nn

/-- JP cc,a16 (R752). -/
def opJpCC (cc : Cond) (nn : Word) (s : State) : Host.Outcome State Fault Refusal :=
  conditional 3 16 12 (condHolds s.flags cc) (fun s => s.setPc nn) s

/-- JP HL (R753): no memory is read at HL. -/
def opJpHl : State → Host.Outcome State Fault Refusal :=
  instruction 1 4 fun s => s.setPc s.regs.hl

/-- JR e8 (R754). -/
def opJr (e : Byte) : State → Host.Outcome State Fault Refusal :=
  instruction 2 12 (jumpRelative e)

/-- JR cc,e8 (R755). -/
def opJrCC (cc : Cond) (e : Byte) (s : State) : Host.Outcome State Fault Refusal :=
  conditional 2 12 8 (condHolds s.flags cc) (jumpRelative e) s

/-- CALL a16 (R756). -/
def opCall (nn : Word) : State → Host.Outcome State Fault Refusal :=
  instruction 3 24 (callTo nn)

/-- CALL cc,a16 (R757). -/
def opCallCC (cc : Cond) (nn : Word) (s : State) : Host.Outcome State Fault Refusal :=
  conditional 3 24 12 (condHolds s.flags cc) (callTo nn) s

/-- RET (R758). -/
def opRet : State → Host.Outcome State Fault Refusal :=
  instruction 1 16 returnTo

/-- RET cc (R759). -/
def opRetCC (cc : Cond) (s : State) : Host.Outcome State Fault Refusal :=
  conditional 1 20 8 (condHolds s.flags cc) returnTo s

/-- RETI (R760). -/
def opReti : State → Host.Outcome State Fault Refusal :=
  instruction 1 16 returnFromInterrupt

/-- RST t (R761). -/
def opRst (t : RstVec) : State → Host.Outcome State Fault Refusal :=
  instruction 1 16 (callTo t.target)

/-- JR e8 (R754). -/
def exec_jr_e8 (e : Byte) (s : State) : Host.Outcome State Fault Refusal := opJr e s

/-- JR NZ,e8 (R755). -/
def exec_jr_nz_e8 (e : Byte) (s : State) : Host.Outcome State Fault Refusal := opJrCC .nz e s

/-- JR Z,e8 (R755). -/
def exec_jr_z_e8 (e : Byte) (s : State) : Host.Outcome State Fault Refusal := opJrCC .z e s

/-- JR NC,e8 (R755). -/
def exec_jr_nc_e8 (e : Byte) (s : State) : Host.Outcome State Fault Refusal := opJrCC .nc e s

/-- JR C,e8 (R755). -/
def exec_jr_c_e8 (e : Byte) (s : State) : Host.Outcome State Fault Refusal := opJrCC .c e s

/-- RET NZ (R759). -/
def exec_ret_nz (s : State) : Host.Outcome State Fault Refusal := opRetCC .nz s

/-- JP NZ,a16 (R752). -/
def exec_jp_nz_a16 (nn : Word) (s : State) : Host.Outcome State Fault Refusal := opJpCC .nz nn s

/-- JP a16 (R751). -/
def exec_jp_a16 (nn : Word) (s : State) : Host.Outcome State Fault Refusal := opJp nn s

/-- CALL NZ,a16 (R757). -/
def exec_call_nz_a16 (nn : Word) (s : State) : Host.Outcome State Fault Refusal := opCallCC .nz nn s

/-- RST 00H (R761). -/
def exec_rst_00h (s : State) : Host.Outcome State Fault Refusal := opRst .t00 s

/-- RET Z (R759). -/
def exec_ret_z (s : State) : Host.Outcome State Fault Refusal := opRetCC .z s

/-- RET (R758). -/
def exec_ret (s : State) : Host.Outcome State Fault Refusal := opRet s

/-- JP Z,a16 (R752). -/
def exec_jp_z_a16 (nn : Word) (s : State) : Host.Outcome State Fault Refusal := opJpCC .z nn s

/-- CALL Z,a16 (R757). -/
def exec_call_z_a16 (nn : Word) (s : State) : Host.Outcome State Fault Refusal := opCallCC .z nn s

/-- CALL a16 (R756). -/
def exec_call_a16 (nn : Word) (s : State) : Host.Outcome State Fault Refusal := opCall nn s

/-- RST 08H (R761). -/
def exec_rst_08h (s : State) : Host.Outcome State Fault Refusal := opRst .t08 s

/-- RET NC (R759). -/
def exec_ret_nc (s : State) : Host.Outcome State Fault Refusal := opRetCC .nc s

/-- JP NC,a16 (R752). -/
def exec_jp_nc_a16 (nn : Word) (s : State) : Host.Outcome State Fault Refusal := opJpCC .nc nn s

/-- CALL NC,a16 (R757). -/
def exec_call_nc_a16 (nn : Word) (s : State) : Host.Outcome State Fault Refusal := opCallCC .nc nn s

/-- RST 10H (R761). -/
def exec_rst_10h (s : State) : Host.Outcome State Fault Refusal := opRst .t10 s

/-- RET C (R759). -/
def exec_ret_c (s : State) : Host.Outcome State Fault Refusal := opRetCC .c s

/-- RETI (R760). -/
def exec_reti (s : State) : Host.Outcome State Fault Refusal := opReti s

/-- JP C,a16 (R752). -/
def exec_jp_c_a16 (nn : Word) (s : State) : Host.Outcome State Fault Refusal := opJpCC .c nn s

/-- CALL C,a16 (R757). -/
def exec_call_c_a16 (nn : Word) (s : State) : Host.Outcome State Fault Refusal := opCallCC .c nn s

/-- RST 18H (R761). -/
def exec_rst_18h (s : State) : Host.Outcome State Fault Refusal := opRst .t18 s

/-- RST 20H (R761). -/
def exec_rst_20h (s : State) : Host.Outcome State Fault Refusal := opRst .t20 s

/-- JP HL (R753). -/
def exec_jp_hl (s : State) : Host.Outcome State Fault Refusal := opJpHl s

/-- RST 28H (R761). -/
def exec_rst_28h (s : State) : Host.Outcome State Fault Refusal := opRst .t28 s

/-- RST 30H (R761). -/
def exec_rst_30h (s : State) : Host.Outcome State Fault Refusal := opRst .t30 s

/-- RST 38H (R761). -/
def exec_rst_38h (s : State) : Host.Outcome State Fault Refusal := opRst .t38 s

end Sys2Proof.Machine
end

