-- ==== Sys2Proof/Machine/Load16.lean ====
section
/-! DEFINITION. The 16-bit loads and the stack (41_load16 R551 to R557).  None but LD HL,SP+e8 and POP AF changes a
flag. -/

namespace Sys2Proof.Machine

/-- LD rr,d16 (R551). -/
def opLdRp (r : Rp) (nn : Word) : State → Host.Outcome State Fault Refusal :=
  instruction 3 12 fun s => s.setRegs (s.regs.setRp r nn)

/-- LD (a16),SP (R552). -/
def opStoreSp (nn : Word) : State → Host.Outcome State Fault Refusal :=
  instruction 3 20 fun s => memWrite16 s nn s.regs.sp

/-- LD SP,HL (R553). -/
def opLdSpHl : State → Host.Outcome State Fault Refusal :=
  instruction 1 8 fun s => s.setSp s.regs.hl

/-- LD HL,SP+e8 (R554): SP is unchanged. -/
def opLdHlSp (e : Byte) : State → Host.Outcome State Fault Refusal :=
  instruction 2 12 fun s =>
    (s.setRegs (s.regs.setHl (addSpE8 s.regs.sp e).1)).setFlags (addSpE8 s.regs.sp e).2

/-- PUSH rr (R555). -/
def opPush (r : Rp2) : State → Host.Outcome State Fault Refusal :=
  instruction 1 16 fun s => push16 s (s.regs.getRp2 r)

/-- POP rr (R556) and POP AF (R557). -/
def opPop (r : Rp2) : State → Host.Outcome State Fault Refusal :=
  instruction 1 12 fun s => (pop16 s).2.setRegs ((pop16 s).2.regs.setRp2 r (pop16 s).1)

/-- LD BC,d16 (R551). -/
def exec_ld_bc_d16 (nn : Word) (s : State) : Host.Outcome State Fault Refusal := opLdRp .bc nn s

/-- LD (a16),SP (R552). -/
def exec_ld_atA16_sp (nn : Word) (s : State) : Host.Outcome State Fault Refusal := opStoreSp nn s

/-- LD DE,d16 (R551). -/
def exec_ld_de_d16 (nn : Word) (s : State) : Host.Outcome State Fault Refusal := opLdRp .de nn s

/-- LD HL,d16 (R551). -/
def exec_ld_hl_d16 (nn : Word) (s : State) : Host.Outcome State Fault Refusal := opLdRp .hl nn s

/-- LD SP,d16 (R551). -/
def exec_ld_sp_d16 (nn : Word) (s : State) : Host.Outcome State Fault Refusal := opLdRp .sp nn s

/-- POP BC (R556). -/
def exec_pop_bc (s : State) : Host.Outcome State Fault Refusal := opPop .bc s

/-- PUSH BC (R555). -/
def exec_push_bc (s : State) : Host.Outcome State Fault Refusal := opPush .bc s

/-- POP DE (R556). -/
def exec_pop_de (s : State) : Host.Outcome State Fault Refusal := opPop .de s

/-- PUSH DE (R555). -/
def exec_push_de (s : State) : Host.Outcome State Fault Refusal := opPush .de s

/-- POP HL (R556). -/
def exec_pop_hl (s : State) : Host.Outcome State Fault Refusal := opPop .hl s

/-- PUSH HL (R555). -/
def exec_push_hl (s : State) : Host.Outcome State Fault Refusal := opPush .hl s

/-- POP AF (R557). -/
def exec_pop_af (s : State) : Host.Outcome State Fault Refusal := opPop .af s

/-- PUSH AF (R555). -/
def exec_push_af (s : State) : Host.Outcome State Fault Refusal := opPush .af s

/-- LD HL,SP+e8 (R554). -/
def exec_ld_hl_sp_e8 (e : Byte) (s : State) : Host.Outcome State Fault Refusal := opLdHlSp e s

/-- LD SP,HL (R553). -/
def exec_ld_sp_hl (s : State) : Host.Outcome State Fault Refusal := opLdSpHl s

end Sys2Proof.Machine
end

