-- ==== Sys2Proof/Machine/Load8.lean ====
section
/-! DEFINITION. The 8-bit loads (40_load8 R501 to R519): the shared operations, then one meaning per instruction.
None changes a flag. -/

namespace Sys2Proof.Machine

/-- LD between 8-bit operands (R501 to R505): the source is read, then the destination written. -/
def opLd8 (len cost : Nat) (dst src : Opnd8) : State → Host.Outcome State Fault Refusal :=
  instruction len cost fun s => dst.write (src.read s) s

/-- LD A,(m) and LDH A,(m) (R506, R507, R510, R512, R514). -/
def opLoadA (len cost : Nat) (m : MemForm) : State → Host.Outcome State Fault Refusal :=
  instruction len cost fun s => s.set8 .a (memRead s (m.addr s))

/-- LD (m),A and LDH (m),A (R508, R509, R511, R513, R515). -/
def opStoreA (len cost : Nat) (m : MemForm) : State → Host.Outcome State Fault Refusal :=
  instruction len cost fun s => memWrite s (m.addr s) s.regs.a

/-- HL moved by `step`, with no flag change (R516 to R519). -/
def stepHl (step : Word) (s : State) : State := s.setRegs (s.regs.setHl (s.regs.hl + step))

/-- LD A,(HL+) and LD A,(HL-) (R516, R517). -/
def opLoadAStep (step : Word) : State → Host.Outcome State Fault Refusal :=
  instruction 1 8 fun s => stepHl step (s.set8 .a (memRead s s.regs.hl))

/-- LD (HL+),A and LD (HL-),A (R518, R519): the write uses the old HL. -/
def opStoreAStep (step : Word) : State → Host.Outcome State Fault Refusal :=
  instruction 1 8 fun s => stepHl step (memWrite s s.regs.hl s.regs.a)

/-- LD (BC),A (R508). -/
def exec_ld_atBC_a (s : State) : Host.Outcome State Fault Refusal := opStoreA 1 8 .atBC s

/-- LD B,d8 (R502). -/
def exec_ld_b_d8 (n : Byte) (s : State) : Host.Outcome State Fault Refusal := opLd8 2 8 (.reg .b) (.imm n) s

/-- LD A,(BC) (R506). -/
def exec_ld_a_atBC (s : State) : Host.Outcome State Fault Refusal := opLoadA 1 8 .atBC s

/-- LD C,d8 (R502). -/
def exec_ld_c_d8 (n : Byte) (s : State) : Host.Outcome State Fault Refusal := opLd8 2 8 (.reg .c) (.imm n) s

/-- LD (DE),A (R509). -/
def exec_ld_atDE_a (s : State) : Host.Outcome State Fault Refusal := opStoreA 1 8 .atDE s

/-- LD D,d8 (R502). -/
def exec_ld_d_d8 (n : Byte) (s : State) : Host.Outcome State Fault Refusal := opLd8 2 8 (.reg .d) (.imm n) s

/-- LD A,(DE) (R507). -/
def exec_ld_a_atDE (s : State) : Host.Outcome State Fault Refusal := opLoadA 1 8 .atDE s

/-- LD E,d8 (R502). -/
def exec_ld_e_d8 (n : Byte) (s : State) : Host.Outcome State Fault Refusal := opLd8 2 8 (.reg .e) (.imm n) s

/-- LD (HL+),A (R518). -/
def exec_ld_atHLi_a (s : State) : Host.Outcome State Fault Refusal := opStoreAStep 1 s

/-- LD H,d8 (R502). -/
def exec_ld_h_d8 (n : Byte) (s : State) : Host.Outcome State Fault Refusal := opLd8 2 8 (.reg .h) (.imm n) s

/-- LD A,(HL+) (R516). -/
def exec_ld_a_atHLi (s : State) : Host.Outcome State Fault Refusal := opLoadAStep 1 s

/-- LD L,d8 (R502). -/
def exec_ld_l_d8 (n : Byte) (s : State) : Host.Outcome State Fault Refusal := opLd8 2 8 (.reg .l) (.imm n) s

/-- LD (HL-),A (R519). -/
def exec_ld_atHLd_a (s : State) : Host.Outcome State Fault Refusal := opStoreAStep (-1) s

/-- LD (HL),d8 (R505). -/
def exec_ld_atHL_d8 (n : Byte) (s : State) : Host.Outcome State Fault Refusal := opLd8 2 12 .atHL (.imm n) s

/-- LD A,(HL-) (R517). -/
def exec_ld_a_atHLd (s : State) : Host.Outcome State Fault Refusal := opLoadAStep (-1) s

/-- LD A,d8 (R502). -/
def exec_ld_a_d8 (n : Byte) (s : State) : Host.Outcome State Fault Refusal := opLd8 2 8 (.reg .a) (.imm n) s

/-- LD B,B (R501). -/
def exec_ld_b_b (s : State) : Host.Outcome State Fault Refusal := opLd8 1 4 (.reg .b) (.reg .b) s

/-- LD B,C (R501). -/
def exec_ld_b_c (s : State) : Host.Outcome State Fault Refusal := opLd8 1 4 (.reg .b) (.reg .c) s

/-- LD B,D (R501). -/
def exec_ld_b_d (s : State) : Host.Outcome State Fault Refusal := opLd8 1 4 (.reg .b) (.reg .d) s

/-- LD B,E (R501). -/
def exec_ld_b_e (s : State) : Host.Outcome State Fault Refusal := opLd8 1 4 (.reg .b) (.reg .e) s

/-- LD B,H (R501). -/
def exec_ld_b_h (s : State) : Host.Outcome State Fault Refusal := opLd8 1 4 (.reg .b) (.reg .h) s

/-- LD B,L (R501). -/
def exec_ld_b_l (s : State) : Host.Outcome State Fault Refusal := opLd8 1 4 (.reg .b) (.reg .l) s

/-- LD B,(HL) (R503). -/
def exec_ld_b_atHL (s : State) : Host.Outcome State Fault Refusal := opLd8 1 8 (.reg .b) .atHL s

/-- LD B,A (R501). -/
def exec_ld_b_a (s : State) : Host.Outcome State Fault Refusal := opLd8 1 4 (.reg .b) (.reg .a) s

/-- LD C,B (R501). -/
def exec_ld_c_b (s : State) : Host.Outcome State Fault Refusal := opLd8 1 4 (.reg .c) (.reg .b) s

/-- LD C,C (R501). -/
def exec_ld_c_c (s : State) : Host.Outcome State Fault Refusal := opLd8 1 4 (.reg .c) (.reg .c) s

/-- LD C,D (R501). -/
def exec_ld_c_d (s : State) : Host.Outcome State Fault Refusal := opLd8 1 4 (.reg .c) (.reg .d) s

/-- LD C,E (R501). -/
def exec_ld_c_e (s : State) : Host.Outcome State Fault Refusal := opLd8 1 4 (.reg .c) (.reg .e) s

/-- LD C,H (R501). -/
def exec_ld_c_h (s : State) : Host.Outcome State Fault Refusal := opLd8 1 4 (.reg .c) (.reg .h) s

/-- LD C,L (R501). -/
def exec_ld_c_l (s : State) : Host.Outcome State Fault Refusal := opLd8 1 4 (.reg .c) (.reg .l) s

/-- LD C,(HL) (R503). -/
def exec_ld_c_atHL (s : State) : Host.Outcome State Fault Refusal := opLd8 1 8 (.reg .c) .atHL s

/-- LD C,A (R501). -/
def exec_ld_c_a (s : State) : Host.Outcome State Fault Refusal := opLd8 1 4 (.reg .c) (.reg .a) s

/-- LD D,B (R501). -/
def exec_ld_d_b (s : State) : Host.Outcome State Fault Refusal := opLd8 1 4 (.reg .d) (.reg .b) s

/-- LD D,C (R501). -/
def exec_ld_d_c (s : State) : Host.Outcome State Fault Refusal := opLd8 1 4 (.reg .d) (.reg .c) s

/-- LD D,D (R501). -/
def exec_ld_d_d (s : State) : Host.Outcome State Fault Refusal := opLd8 1 4 (.reg .d) (.reg .d) s

/-- LD D,E (R501). -/
def exec_ld_d_e (s : State) : Host.Outcome State Fault Refusal := opLd8 1 4 (.reg .d) (.reg .e) s

/-- LD D,H (R501). -/
def exec_ld_d_h (s : State) : Host.Outcome State Fault Refusal := opLd8 1 4 (.reg .d) (.reg .h) s

/-- LD D,L (R501). -/
def exec_ld_d_l (s : State) : Host.Outcome State Fault Refusal := opLd8 1 4 (.reg .d) (.reg .l) s

/-- LD D,(HL) (R503). -/
def exec_ld_d_atHL (s : State) : Host.Outcome State Fault Refusal := opLd8 1 8 (.reg .d) .atHL s

/-- LD D,A (R501). -/
def exec_ld_d_a (s : State) : Host.Outcome State Fault Refusal := opLd8 1 4 (.reg .d) (.reg .a) s

/-- LD E,B (R501). -/
def exec_ld_e_b (s : State) : Host.Outcome State Fault Refusal := opLd8 1 4 (.reg .e) (.reg .b) s

/-- LD E,C (R501). -/
def exec_ld_e_c (s : State) : Host.Outcome State Fault Refusal := opLd8 1 4 (.reg .e) (.reg .c) s

/-- LD E,D (R501). -/
def exec_ld_e_d (s : State) : Host.Outcome State Fault Refusal := opLd8 1 4 (.reg .e) (.reg .d) s

/-- LD E,E (R501). -/
def exec_ld_e_e (s : State) : Host.Outcome State Fault Refusal := opLd8 1 4 (.reg .e) (.reg .e) s

/-- LD E,H (R501). -/
def exec_ld_e_h (s : State) : Host.Outcome State Fault Refusal := opLd8 1 4 (.reg .e) (.reg .h) s

/-- LD E,L (R501). -/
def exec_ld_e_l (s : State) : Host.Outcome State Fault Refusal := opLd8 1 4 (.reg .e) (.reg .l) s

/-- LD E,(HL) (R503). -/
def exec_ld_e_atHL (s : State) : Host.Outcome State Fault Refusal := opLd8 1 8 (.reg .e) .atHL s

/-- LD E,A (R501). -/
def exec_ld_e_a (s : State) : Host.Outcome State Fault Refusal := opLd8 1 4 (.reg .e) (.reg .a) s

/-- LD H,B (R501). -/
def exec_ld_h_b (s : State) : Host.Outcome State Fault Refusal := opLd8 1 4 (.reg .h) (.reg .b) s

/-- LD H,C (R501). -/
def exec_ld_h_c (s : State) : Host.Outcome State Fault Refusal := opLd8 1 4 (.reg .h) (.reg .c) s

/-- LD H,D (R501). -/
def exec_ld_h_d (s : State) : Host.Outcome State Fault Refusal := opLd8 1 4 (.reg .h) (.reg .d) s

/-- LD H,E (R501). -/
def exec_ld_h_e (s : State) : Host.Outcome State Fault Refusal := opLd8 1 4 (.reg .h) (.reg .e) s

/-- LD H,H (R501). -/
def exec_ld_h_h (s : State) : Host.Outcome State Fault Refusal := opLd8 1 4 (.reg .h) (.reg .h) s

/-- LD H,L (R501). -/
def exec_ld_h_l (s : State) : Host.Outcome State Fault Refusal := opLd8 1 4 (.reg .h) (.reg .l) s

/-- LD H,(HL) (R503). -/
def exec_ld_h_atHL (s : State) : Host.Outcome State Fault Refusal := opLd8 1 8 (.reg .h) .atHL s

/-- LD H,A (R501). -/
def exec_ld_h_a (s : State) : Host.Outcome State Fault Refusal := opLd8 1 4 (.reg .h) (.reg .a) s

/-- LD L,B (R501). -/
def exec_ld_l_b (s : State) : Host.Outcome State Fault Refusal := opLd8 1 4 (.reg .l) (.reg .b) s

/-- LD L,C (R501). -/
def exec_ld_l_c (s : State) : Host.Outcome State Fault Refusal := opLd8 1 4 (.reg .l) (.reg .c) s

/-- LD L,D (R501). -/
def exec_ld_l_d (s : State) : Host.Outcome State Fault Refusal := opLd8 1 4 (.reg .l) (.reg .d) s

/-- LD L,E (R501). -/
def exec_ld_l_e (s : State) : Host.Outcome State Fault Refusal := opLd8 1 4 (.reg .l) (.reg .e) s

/-- LD L,H (R501). -/
def exec_ld_l_h (s : State) : Host.Outcome State Fault Refusal := opLd8 1 4 (.reg .l) (.reg .h) s

/-- LD L,L (R501). -/
def exec_ld_l_l (s : State) : Host.Outcome State Fault Refusal := opLd8 1 4 (.reg .l) (.reg .l) s

/-- LD L,(HL) (R503). -/
def exec_ld_l_atHL (s : State) : Host.Outcome State Fault Refusal := opLd8 1 8 (.reg .l) .atHL s

/-- LD L,A (R501). -/
def exec_ld_l_a (s : State) : Host.Outcome State Fault Refusal := opLd8 1 4 (.reg .l) (.reg .a) s

/-- LD (HL),B (R504). -/
def exec_ld_atHL_b (s : State) : Host.Outcome State Fault Refusal := opLd8 1 8 .atHL (.reg .b) s

/-- LD (HL),C (R504). -/
def exec_ld_atHL_c (s : State) : Host.Outcome State Fault Refusal := opLd8 1 8 .atHL (.reg .c) s

/-- LD (HL),D (R504). -/
def exec_ld_atHL_d (s : State) : Host.Outcome State Fault Refusal := opLd8 1 8 .atHL (.reg .d) s

/-- LD (HL),E (R504). -/
def exec_ld_atHL_e (s : State) : Host.Outcome State Fault Refusal := opLd8 1 8 .atHL (.reg .e) s

/-- LD (HL),H (R504). -/
def exec_ld_atHL_h (s : State) : Host.Outcome State Fault Refusal := opLd8 1 8 .atHL (.reg .h) s

/-- LD (HL),L (R504). -/
def exec_ld_atHL_l (s : State) : Host.Outcome State Fault Refusal := opLd8 1 8 .atHL (.reg .l) s

/-- LD (HL),A (R504). -/
def exec_ld_atHL_a (s : State) : Host.Outcome State Fault Refusal := opLd8 1 8 .atHL (.reg .a) s

/-- LD A,B (R501). -/
def exec_ld_a_b (s : State) : Host.Outcome State Fault Refusal := opLd8 1 4 (.reg .a) (.reg .b) s

/-- LD A,C (R501). -/
def exec_ld_a_c (s : State) : Host.Outcome State Fault Refusal := opLd8 1 4 (.reg .a) (.reg .c) s

/-- LD A,D (R501). -/
def exec_ld_a_d (s : State) : Host.Outcome State Fault Refusal := opLd8 1 4 (.reg .a) (.reg .d) s

/-- LD A,E (R501). -/
def exec_ld_a_e (s : State) : Host.Outcome State Fault Refusal := opLd8 1 4 (.reg .a) (.reg .e) s

/-- LD A,H (R501). -/
def exec_ld_a_h (s : State) : Host.Outcome State Fault Refusal := opLd8 1 4 (.reg .a) (.reg .h) s

/-- LD A,L (R501). -/
def exec_ld_a_l (s : State) : Host.Outcome State Fault Refusal := opLd8 1 4 (.reg .a) (.reg .l) s

/-- LD A,(HL) (R503). -/
def exec_ld_a_atHL (s : State) : Host.Outcome State Fault Refusal := opLd8 1 8 (.reg .a) .atHL s

/-- LD A,A (R501). -/
def exec_ld_a_a (s : State) : Host.Outcome State Fault Refusal := opLd8 1 4 (.reg .a) (.reg .a) s

/-- LDH (a8),A (R513). -/
def exec_ldh_atA8_a (n : Byte) (s : State) : Host.Outcome State Fault Refusal := opStoreA 2 12 (.high n) s

/-- LDH (C),A (R515). -/
def exec_ldh_atC_a (s : State) : Host.Outcome State Fault Refusal := opStoreA 1 8 .highC s

/-- LD (a16),A (R511). -/
def exec_ld_atA16_a (nn : Word) (s : State) : Host.Outcome State Fault Refusal := opStoreA 3 16 (.abs nn) s

/-- LDH A,(a8) (R512). -/
def exec_ldh_a_atA8 (n : Byte) (s : State) : Host.Outcome State Fault Refusal := opLoadA 2 12 (.high n) s

/-- LDH A,(C) (R514). -/
def exec_ldh_a_atC (s : State) : Host.Outcome State Fault Refusal := opLoadA 1 8 .highC s

/-- LD A,(a16) (R510). -/
def exec_ld_a_atA16 (nn : Word) (s : State) : Host.Outcome State Fault Refusal := opLoadA 3 16 (.abs nn) s

end Sys2Proof.Machine
end

