-- ==== Sys2Proof/Machine/Rotate.lean ====
section
/-! DEFINITION. Rotates, shifts and bit operations (44_rotate_shift_bit R700 to R727). -/

namespace Sys2Proof.Machine

/-- RLCA, RRCA, RLA and RRA (R701 to R704): as the CB form on A, but Z is always cleared. -/
def opRotA (op : RotOp) : State → Host.Outcome State Fault Refusal :=
  instruction 1 4 fun s =>
    (s.set8 .a (rotate op s.regs.a s.flags.c).1).setFlags ⟨false, false, false, (rotate op s.regs.a s.flags.c).2⟩

/-- A CB rotate, shift or swap (R706 to R721): one read, one write-back. -/
def opRot (cost : Nat) (op : RotOp) (dst : Opnd8) : State → Host.Outcome State Fault Refusal :=
  instruction 2 cost fun s =>
    (dst.write (rotateFlags op s.flags (dst.read s)).1 s).setFlags (rotateFlags op s.flags (dst.read s)).2

/-- BIT b (R722, R723): no write. -/
def opBit (cost : Nat) (b : BitIx) (src : Opnd8) : State → Host.Outcome State Fault Refusal :=
  instruction 2 cost fun s => s.setFlags (bitFlags s.flags b (src.read s))

/-- RES b (R724, R725). -/
def opRes (cost : Nat) (b : BitIx) (dst : Opnd8) : State → Host.Outcome State Fault Refusal :=
  instruction 2 cost fun s => dst.write (resBit b (dst.read s)) s

/-- SET b (R726, R727). -/
def opSet (cost : Nat) (b : BitIx) (dst : Opnd8) : State → Host.Outcome State Fault Refusal :=
  instruction 2 cost fun s => dst.write (setBitIx b (dst.read s)) s

/-- R404's table r[z]. -/
def opndOf (z : Nat) : Opnd8 :=
  match z with
  | 0 => .reg .b
  | 1 => .reg .c
  | 2 => .reg .d
  | 3 => .reg .e
  | 4 => .reg .h
  | 5 => .reg .l
  | 6 => .atHL
  | _ => .reg .a

/-- R404's table rot[y]. -/
def rotOf (y : Nat) : RotOp :=
  match y with
  | 0 => .rlc
  | 1 => .rrc
  | 2 => .rl
  | 3 => .rr
  | 4 => .sla
  | 5 => .sra
  | 6 => .swap
  | _ => .srl

/-- The bit number y. -/
def bitOf (y : Nat) : BitIx :=
  match y with
  | 0 => .b0
  | 1 => .b1
  | 2 => .b2
  | 3 => .b3
  | 4 => .b4
  | 5 => .b5
  | 6 => .b6
  | _ => .b7

/-- The CB instruction with second byte `c`, read off its fields x, y and z (R402, R407; the introduction of
44_rotate_shift_bit for the costs). -/
def opCbByte (c : Byte) : State → Host.Outcome State Fault Refusal :=
  let y := field c 5 3
  let z := field c 2 0
  let cost := if z = 6 then 16 else 8
  match field c 7 6 with
  | 0 => opRot cost (rotOf y) (opndOf z)
  | 1 => opBit (if z = 6 then 12 else 8) (bitOf y) (opndOf z)
  | 2 => opRes cost (bitOf y) (opndOf z)
  | _ => opSet cost (bitOf y) (opndOf z)

/-- RLCA (R701). -/
def exec_rlca (s : State) : Host.Outcome State Fault Refusal := opRotA .rlc s

/-- RRCA (R702). -/
def exec_rrca (s : State) : Host.Outcome State Fault Refusal := opRotA .rrc s

/-- RLA (R703). -/
def exec_rla (s : State) : Host.Outcome State Fault Refusal := opRotA .rl s

/-- RRA (R704). -/
def exec_rra (s : State) : Host.Outcome State Fault Refusal := opRotA .rr s

/-- RLC B (R706). -/
def exec_rlc_b (s : State) : Host.Outcome State Fault Refusal := opRot 8 .rlc (.reg .b) s

/-- RLC C (R706). -/
def exec_rlc_c (s : State) : Host.Outcome State Fault Refusal := opRot 8 .rlc (.reg .c) s

/-- RLC D (R706). -/
def exec_rlc_d (s : State) : Host.Outcome State Fault Refusal := opRot 8 .rlc (.reg .d) s

/-- RLC E (R706). -/
def exec_rlc_e (s : State) : Host.Outcome State Fault Refusal := opRot 8 .rlc (.reg .e) s

/-- RLC H (R706). -/
def exec_rlc_h (s : State) : Host.Outcome State Fault Refusal := opRot 8 .rlc (.reg .h) s

/-- RLC L (R706). -/
def exec_rlc_l (s : State) : Host.Outcome State Fault Refusal := opRot 8 .rlc (.reg .l) s

/-- RLC (HL) (R707). -/
def exec_rlc_atHL (s : State) : Host.Outcome State Fault Refusal := opRot 16 .rlc .atHL s

/-- RLC A (R706). -/
def exec_rlc_a (s : State) : Host.Outcome State Fault Refusal := opRot 8 .rlc (.reg .a) s

/-- RRC B (R708). -/
def exec_rrc_b (s : State) : Host.Outcome State Fault Refusal := opRot 8 .rrc (.reg .b) s

/-- RRC C (R708). -/
def exec_rrc_c (s : State) : Host.Outcome State Fault Refusal := opRot 8 .rrc (.reg .c) s

/-- RRC D (R708). -/
def exec_rrc_d (s : State) : Host.Outcome State Fault Refusal := opRot 8 .rrc (.reg .d) s

/-- RRC E (R708). -/
def exec_rrc_e (s : State) : Host.Outcome State Fault Refusal := opRot 8 .rrc (.reg .e) s

/-- RRC H (R708). -/
def exec_rrc_h (s : State) : Host.Outcome State Fault Refusal := opRot 8 .rrc (.reg .h) s

/-- RRC L (R708). -/
def exec_rrc_l (s : State) : Host.Outcome State Fault Refusal := opRot 8 .rrc (.reg .l) s

/-- RRC (HL) (R709). -/
def exec_rrc_atHL (s : State) : Host.Outcome State Fault Refusal := opRot 16 .rrc .atHL s

/-- RRC A (R708). -/
def exec_rrc_a (s : State) : Host.Outcome State Fault Refusal := opRot 8 .rrc (.reg .a) s

/-- RL B (R710). -/
def exec_rl_b (s : State) : Host.Outcome State Fault Refusal := opRot 8 .rl (.reg .b) s

/-- RL C (R710). -/
def exec_rl_c (s : State) : Host.Outcome State Fault Refusal := opRot 8 .rl (.reg .c) s

/-- RL D (R710). -/
def exec_rl_d (s : State) : Host.Outcome State Fault Refusal := opRot 8 .rl (.reg .d) s

/-- RL E (R710). -/
def exec_rl_e (s : State) : Host.Outcome State Fault Refusal := opRot 8 .rl (.reg .e) s

/-- RL H (R710). -/
def exec_rl_h (s : State) : Host.Outcome State Fault Refusal := opRot 8 .rl (.reg .h) s

/-- RL L (R710). -/
def exec_rl_l (s : State) : Host.Outcome State Fault Refusal := opRot 8 .rl (.reg .l) s

/-- RL (HL) (R711). -/
def exec_rl_atHL (s : State) : Host.Outcome State Fault Refusal := opRot 16 .rl .atHL s

/-- RL A (R710). -/
def exec_rl_a (s : State) : Host.Outcome State Fault Refusal := opRot 8 .rl (.reg .a) s

/-- RR B (R712). -/
def exec_rr_b (s : State) : Host.Outcome State Fault Refusal := opRot 8 .rr (.reg .b) s

/-- RR C (R712). -/
def exec_rr_c (s : State) : Host.Outcome State Fault Refusal := opRot 8 .rr (.reg .c) s

/-- RR D (R712). -/
def exec_rr_d (s : State) : Host.Outcome State Fault Refusal := opRot 8 .rr (.reg .d) s

/-- RR E (R712). -/
def exec_rr_e (s : State) : Host.Outcome State Fault Refusal := opRot 8 .rr (.reg .e) s

/-- RR H (R712). -/
def exec_rr_h (s : State) : Host.Outcome State Fault Refusal := opRot 8 .rr (.reg .h) s

/-- RR L (R712). -/
def exec_rr_l (s : State) : Host.Outcome State Fault Refusal := opRot 8 .rr (.reg .l) s

/-- RR (HL) (R713). -/
def exec_rr_atHL (s : State) : Host.Outcome State Fault Refusal := opRot 16 .rr .atHL s

/-- RR A (R712). -/
def exec_rr_a (s : State) : Host.Outcome State Fault Refusal := opRot 8 .rr (.reg .a) s

/-- SLA B (R714). -/
def exec_sla_b (s : State) : Host.Outcome State Fault Refusal := opRot 8 .sla (.reg .b) s

/-- SLA C (R714). -/
def exec_sla_c (s : State) : Host.Outcome State Fault Refusal := opRot 8 .sla (.reg .c) s

/-- SLA D (R714). -/
def exec_sla_d (s : State) : Host.Outcome State Fault Refusal := opRot 8 .sla (.reg .d) s

/-- SLA E (R714). -/
def exec_sla_e (s : State) : Host.Outcome State Fault Refusal := opRot 8 .sla (.reg .e) s

/-- SLA H (R714). -/
def exec_sla_h (s : State) : Host.Outcome State Fault Refusal := opRot 8 .sla (.reg .h) s

/-- SLA L (R714). -/
def exec_sla_l (s : State) : Host.Outcome State Fault Refusal := opRot 8 .sla (.reg .l) s

/-- SLA (HL) (R715). -/
def exec_sla_atHL (s : State) : Host.Outcome State Fault Refusal := opRot 16 .sla .atHL s

/-- SLA A (R714). -/
def exec_sla_a (s : State) : Host.Outcome State Fault Refusal := opRot 8 .sla (.reg .a) s

/-- SRA B (R716). -/
def exec_sra_b (s : State) : Host.Outcome State Fault Refusal := opRot 8 .sra (.reg .b) s

/-- SRA C (R716). -/
def exec_sra_c (s : State) : Host.Outcome State Fault Refusal := opRot 8 .sra (.reg .c) s

/-- SRA D (R716). -/
def exec_sra_d (s : State) : Host.Outcome State Fault Refusal := opRot 8 .sra (.reg .d) s

/-- SRA E (R716). -/
def exec_sra_e (s : State) : Host.Outcome State Fault Refusal := opRot 8 .sra (.reg .e) s

/-- SRA H (R716). -/
def exec_sra_h (s : State) : Host.Outcome State Fault Refusal := opRot 8 .sra (.reg .h) s

/-- SRA L (R716). -/
def exec_sra_l (s : State) : Host.Outcome State Fault Refusal := opRot 8 .sra (.reg .l) s

/-- SRA (HL) (R717). -/
def exec_sra_atHL (s : State) : Host.Outcome State Fault Refusal := opRot 16 .sra .atHL s

/-- SRA A (R716). -/
def exec_sra_a (s : State) : Host.Outcome State Fault Refusal := opRot 8 .sra (.reg .a) s

/-- SWAP B (R718). -/
def exec_swap_b (s : State) : Host.Outcome State Fault Refusal := opRot 8 .swap (.reg .b) s

/-- SWAP C (R718). -/
def exec_swap_c (s : State) : Host.Outcome State Fault Refusal := opRot 8 .swap (.reg .c) s

/-- SWAP D (R718). -/
def exec_swap_d (s : State) : Host.Outcome State Fault Refusal := opRot 8 .swap (.reg .d) s

/-- SWAP E (R718). -/
def exec_swap_e (s : State) : Host.Outcome State Fault Refusal := opRot 8 .swap (.reg .e) s

/-- SWAP H (R718). -/
def exec_swap_h (s : State) : Host.Outcome State Fault Refusal := opRot 8 .swap (.reg .h) s

/-- SWAP L (R718). -/
def exec_swap_l (s : State) : Host.Outcome State Fault Refusal := opRot 8 .swap (.reg .l) s

/-- SWAP (HL) (R719). -/
def exec_swap_atHL (s : State) : Host.Outcome State Fault Refusal := opRot 16 .swap .atHL s

/-- SWAP A (R718). -/
def exec_swap_a (s : State) : Host.Outcome State Fault Refusal := opRot 8 .swap (.reg .a) s

/-- SRL B (R720). -/
def exec_srl_b (s : State) : Host.Outcome State Fault Refusal := opRot 8 .srl (.reg .b) s

/-- SRL C (R720). -/
def exec_srl_c (s : State) : Host.Outcome State Fault Refusal := opRot 8 .srl (.reg .c) s

/-- SRL D (R720). -/
def exec_srl_d (s : State) : Host.Outcome State Fault Refusal := opRot 8 .srl (.reg .d) s

/-- SRL E (R720). -/
def exec_srl_e (s : State) : Host.Outcome State Fault Refusal := opRot 8 .srl (.reg .e) s

/-- SRL H (R720). -/
def exec_srl_h (s : State) : Host.Outcome State Fault Refusal := opRot 8 .srl (.reg .h) s

/-- SRL L (R720). -/
def exec_srl_l (s : State) : Host.Outcome State Fault Refusal := opRot 8 .srl (.reg .l) s

/-- SRL (HL) (R721). -/
def exec_srl_atHL (s : State) : Host.Outcome State Fault Refusal := opRot 16 .srl .atHL s

/-- SRL A (R720). -/
def exec_srl_a (s : State) : Host.Outcome State Fault Refusal := opRot 8 .srl (.reg .a) s

/-- BIT 0,B (R722). -/
def exec_bit_0_b (s : State) : Host.Outcome State Fault Refusal := opBit 8 .b0 (.reg .b) s

/-- BIT 0,C (R722). -/
def exec_bit_0_c (s : State) : Host.Outcome State Fault Refusal := opBit 8 .b0 (.reg .c) s

/-- BIT 0,D (R722). -/
def exec_bit_0_d (s : State) : Host.Outcome State Fault Refusal := opBit 8 .b0 (.reg .d) s

/-- BIT 0,E (R722). -/
def exec_bit_0_e (s : State) : Host.Outcome State Fault Refusal := opBit 8 .b0 (.reg .e) s

/-- BIT 0,H (R722). -/
def exec_bit_0_h (s : State) : Host.Outcome State Fault Refusal := opBit 8 .b0 (.reg .h) s

/-- BIT 0,L (R722). -/
def exec_bit_0_l (s : State) : Host.Outcome State Fault Refusal := opBit 8 .b0 (.reg .l) s

/-- BIT 0,(HL) (R723). -/
def exec_bit_0_atHL (s : State) : Host.Outcome State Fault Refusal := opBit 12 .b0 .atHL s

/-- BIT 0,A (R722). -/
def exec_bit_0_a (s : State) : Host.Outcome State Fault Refusal := opBit 8 .b0 (.reg .a) s

/-- BIT 1,B (R722). -/
def exec_bit_1_b (s : State) : Host.Outcome State Fault Refusal := opBit 8 .b1 (.reg .b) s

/-- BIT 1,C (R722). -/
def exec_bit_1_c (s : State) : Host.Outcome State Fault Refusal := opBit 8 .b1 (.reg .c) s

/-- BIT 1,D (R722). -/
def exec_bit_1_d (s : State) : Host.Outcome State Fault Refusal := opBit 8 .b1 (.reg .d) s

/-- BIT 1,E (R722). -/
def exec_bit_1_e (s : State) : Host.Outcome State Fault Refusal := opBit 8 .b1 (.reg .e) s

/-- BIT 1,H (R722). -/
def exec_bit_1_h (s : State) : Host.Outcome State Fault Refusal := opBit 8 .b1 (.reg .h) s

/-- BIT 1,L (R722). -/
def exec_bit_1_l (s : State) : Host.Outcome State Fault Refusal := opBit 8 .b1 (.reg .l) s

/-- BIT 1,(HL) (R723). -/
def exec_bit_1_atHL (s : State) : Host.Outcome State Fault Refusal := opBit 12 .b1 .atHL s

/-- BIT 1,A (R722). -/
def exec_bit_1_a (s : State) : Host.Outcome State Fault Refusal := opBit 8 .b1 (.reg .a) s

/-- BIT 2,B (R722). -/
def exec_bit_2_b (s : State) : Host.Outcome State Fault Refusal := opBit 8 .b2 (.reg .b) s

/-- BIT 2,C (R722). -/
def exec_bit_2_c (s : State) : Host.Outcome State Fault Refusal := opBit 8 .b2 (.reg .c) s

/-- BIT 2,D (R722). -/
def exec_bit_2_d (s : State) : Host.Outcome State Fault Refusal := opBit 8 .b2 (.reg .d) s

/-- BIT 2,E (R722). -/
def exec_bit_2_e (s : State) : Host.Outcome State Fault Refusal := opBit 8 .b2 (.reg .e) s

/-- BIT 2,H (R722). -/
def exec_bit_2_h (s : State) : Host.Outcome State Fault Refusal := opBit 8 .b2 (.reg .h) s

/-- BIT 2,L (R722). -/
def exec_bit_2_l (s : State) : Host.Outcome State Fault Refusal := opBit 8 .b2 (.reg .l) s

/-- BIT 2,(HL) (R723). -/
def exec_bit_2_atHL (s : State) : Host.Outcome State Fault Refusal := opBit 12 .b2 .atHL s

/-- BIT 2,A (R722). -/
def exec_bit_2_a (s : State) : Host.Outcome State Fault Refusal := opBit 8 .b2 (.reg .a) s

/-- BIT 3,B (R722). -/
def exec_bit_3_b (s : State) : Host.Outcome State Fault Refusal := opBit 8 .b3 (.reg .b) s

/-- BIT 3,C (R722). -/
def exec_bit_3_c (s : State) : Host.Outcome State Fault Refusal := opBit 8 .b3 (.reg .c) s

/-- BIT 3,D (R722). -/
def exec_bit_3_d (s : State) : Host.Outcome State Fault Refusal := opBit 8 .b3 (.reg .d) s

/-- BIT 3,E (R722). -/
def exec_bit_3_e (s : State) : Host.Outcome State Fault Refusal := opBit 8 .b3 (.reg .e) s

/-- BIT 3,H (R722). -/
def exec_bit_3_h (s : State) : Host.Outcome State Fault Refusal := opBit 8 .b3 (.reg .h) s

/-- BIT 3,L (R722). -/
def exec_bit_3_l (s : State) : Host.Outcome State Fault Refusal := opBit 8 .b3 (.reg .l) s

/-- BIT 3,(HL) (R723). -/
def exec_bit_3_atHL (s : State) : Host.Outcome State Fault Refusal := opBit 12 .b3 .atHL s

/-- BIT 3,A (R722). -/
def exec_bit_3_a (s : State) : Host.Outcome State Fault Refusal := opBit 8 .b3 (.reg .a) s

/-- BIT 4,B (R722). -/
def exec_bit_4_b (s : State) : Host.Outcome State Fault Refusal := opBit 8 .b4 (.reg .b) s

/-- BIT 4,C (R722). -/
def exec_bit_4_c (s : State) : Host.Outcome State Fault Refusal := opBit 8 .b4 (.reg .c) s

/-- BIT 4,D (R722). -/
def exec_bit_4_d (s : State) : Host.Outcome State Fault Refusal := opBit 8 .b4 (.reg .d) s

/-- BIT 4,E (R722). -/
def exec_bit_4_e (s : State) : Host.Outcome State Fault Refusal := opBit 8 .b4 (.reg .e) s

/-- BIT 4,H (R722). -/
def exec_bit_4_h (s : State) : Host.Outcome State Fault Refusal := opBit 8 .b4 (.reg .h) s

/-- BIT 4,L (R722). -/
def exec_bit_4_l (s : State) : Host.Outcome State Fault Refusal := opBit 8 .b4 (.reg .l) s

/-- BIT 4,(HL) (R723). -/
def exec_bit_4_atHL (s : State) : Host.Outcome State Fault Refusal := opBit 12 .b4 .atHL s

/-- BIT 4,A (R722). -/
def exec_bit_4_a (s : State) : Host.Outcome State Fault Refusal := opBit 8 .b4 (.reg .a) s

/-- BIT 5,B (R722). -/
def exec_bit_5_b (s : State) : Host.Outcome State Fault Refusal := opBit 8 .b5 (.reg .b) s

/-- BIT 5,C (R722). -/
def exec_bit_5_c (s : State) : Host.Outcome State Fault Refusal := opBit 8 .b5 (.reg .c) s

/-- BIT 5,D (R722). -/
def exec_bit_5_d (s : State) : Host.Outcome State Fault Refusal := opBit 8 .b5 (.reg .d) s

/-- BIT 5,E (R722). -/
def exec_bit_5_e (s : State) : Host.Outcome State Fault Refusal := opBit 8 .b5 (.reg .e) s

/-- BIT 5,H (R722). -/
def exec_bit_5_h (s : State) : Host.Outcome State Fault Refusal := opBit 8 .b5 (.reg .h) s

/-- BIT 5,L (R722). -/
def exec_bit_5_l (s : State) : Host.Outcome State Fault Refusal := opBit 8 .b5 (.reg .l) s

/-- BIT 5,(HL) (R723). -/
def exec_bit_5_atHL (s : State) : Host.Outcome State Fault Refusal := opBit 12 .b5 .atHL s

/-- BIT 5,A (R722). -/
def exec_bit_5_a (s : State) : Host.Outcome State Fault Refusal := opBit 8 .b5 (.reg .a) s

/-- BIT 6,B (R722). -/
def exec_bit_6_b (s : State) : Host.Outcome State Fault Refusal := opBit 8 .b6 (.reg .b) s

/-- BIT 6,C (R722). -/
def exec_bit_6_c (s : State) : Host.Outcome State Fault Refusal := opBit 8 .b6 (.reg .c) s

/-- BIT 6,D (R722). -/
def exec_bit_6_d (s : State) : Host.Outcome State Fault Refusal := opBit 8 .b6 (.reg .d) s

/-- BIT 6,E (R722). -/
def exec_bit_6_e (s : State) : Host.Outcome State Fault Refusal := opBit 8 .b6 (.reg .e) s

/-- BIT 6,H (R722). -/
def exec_bit_6_h (s : State) : Host.Outcome State Fault Refusal := opBit 8 .b6 (.reg .h) s

/-- BIT 6,L (R722). -/
def exec_bit_6_l (s : State) : Host.Outcome State Fault Refusal := opBit 8 .b6 (.reg .l) s

/-- BIT 6,(HL) (R723). -/
def exec_bit_6_atHL (s : State) : Host.Outcome State Fault Refusal := opBit 12 .b6 .atHL s

/-- BIT 6,A (R722). -/
def exec_bit_6_a (s : State) : Host.Outcome State Fault Refusal := opBit 8 .b6 (.reg .a) s

/-- BIT 7,B (R722). -/
def exec_bit_7_b (s : State) : Host.Outcome State Fault Refusal := opBit 8 .b7 (.reg .b) s

/-- BIT 7,C (R722). -/
def exec_bit_7_c (s : State) : Host.Outcome State Fault Refusal := opBit 8 .b7 (.reg .c) s

/-- BIT 7,D (R722). -/
def exec_bit_7_d (s : State) : Host.Outcome State Fault Refusal := opBit 8 .b7 (.reg .d) s

/-- BIT 7,E (R722). -/
def exec_bit_7_e (s : State) : Host.Outcome State Fault Refusal := opBit 8 .b7 (.reg .e) s

/-- BIT 7,H (R722). -/
def exec_bit_7_h (s : State) : Host.Outcome State Fault Refusal := opBit 8 .b7 (.reg .h) s

/-- BIT 7,L (R722). -/
def exec_bit_7_l (s : State) : Host.Outcome State Fault Refusal := opBit 8 .b7 (.reg .l) s

/-- BIT 7,(HL) (R723). -/
def exec_bit_7_atHL (s : State) : Host.Outcome State Fault Refusal := opBit 12 .b7 .atHL s

/-- BIT 7,A (R722). -/
def exec_bit_7_a (s : State) : Host.Outcome State Fault Refusal := opBit 8 .b7 (.reg .a) s

/-- RES 0,B (R724). -/
def exec_res_0_b (s : State) : Host.Outcome State Fault Refusal := opRes 8 .b0 (.reg .b) s

/-- RES 0,C (R724). -/
def exec_res_0_c (s : State) : Host.Outcome State Fault Refusal := opRes 8 .b0 (.reg .c) s

/-- RES 0,D (R724). -/
def exec_res_0_d (s : State) : Host.Outcome State Fault Refusal := opRes 8 .b0 (.reg .d) s

/-- RES 0,E (R724). -/
def exec_res_0_e (s : State) : Host.Outcome State Fault Refusal := opRes 8 .b0 (.reg .e) s

/-- RES 0,H (R724). -/
def exec_res_0_h (s : State) : Host.Outcome State Fault Refusal := opRes 8 .b0 (.reg .h) s

/-- RES 0,L (R724). -/
def exec_res_0_l (s : State) : Host.Outcome State Fault Refusal := opRes 8 .b0 (.reg .l) s

/-- RES 0,(HL) (R725). -/
def exec_res_0_atHL (s : State) : Host.Outcome State Fault Refusal := opRes 16 .b0 .atHL s

/-- RES 0,A (R724). -/
def exec_res_0_a (s : State) : Host.Outcome State Fault Refusal := opRes 8 .b0 (.reg .a) s

/-- RES 1,B (R724). -/
def exec_res_1_b (s : State) : Host.Outcome State Fault Refusal := opRes 8 .b1 (.reg .b) s

/-- RES 1,C (R724). -/
def exec_res_1_c (s : State) : Host.Outcome State Fault Refusal := opRes 8 .b1 (.reg .c) s

/-- RES 1,D (R724). -/
def exec_res_1_d (s : State) : Host.Outcome State Fault Refusal := opRes 8 .b1 (.reg .d) s

/-- RES 1,E (R724). -/
def exec_res_1_e (s : State) : Host.Outcome State Fault Refusal := opRes 8 .b1 (.reg .e) s

/-- RES 1,H (R724). -/
def exec_res_1_h (s : State) : Host.Outcome State Fault Refusal := opRes 8 .b1 (.reg .h) s

/-- RES 1,L (R724). -/
def exec_res_1_l (s : State) : Host.Outcome State Fault Refusal := opRes 8 .b1 (.reg .l) s

/-- RES 1,(HL) (R725). -/
def exec_res_1_atHL (s : State) : Host.Outcome State Fault Refusal := opRes 16 .b1 .atHL s

/-- RES 1,A (R724). -/
def exec_res_1_a (s : State) : Host.Outcome State Fault Refusal := opRes 8 .b1 (.reg .a) s

/-- RES 2,B (R724). -/
def exec_res_2_b (s : State) : Host.Outcome State Fault Refusal := opRes 8 .b2 (.reg .b) s

/-- RES 2,C (R724). -/
def exec_res_2_c (s : State) : Host.Outcome State Fault Refusal := opRes 8 .b2 (.reg .c) s

/-- RES 2,D (R724). -/
def exec_res_2_d (s : State) : Host.Outcome State Fault Refusal := opRes 8 .b2 (.reg .d) s

/-- RES 2,E (R724). -/
def exec_res_2_e (s : State) : Host.Outcome State Fault Refusal := opRes 8 .b2 (.reg .e) s

/-- RES 2,H (R724). -/
def exec_res_2_h (s : State) : Host.Outcome State Fault Refusal := opRes 8 .b2 (.reg .h) s

/-- RES 2,L (R724). -/
def exec_res_2_l (s : State) : Host.Outcome State Fault Refusal := opRes 8 .b2 (.reg .l) s

/-- RES 2,(HL) (R725). -/
def exec_res_2_atHL (s : State) : Host.Outcome State Fault Refusal := opRes 16 .b2 .atHL s

/-- RES 2,A (R724). -/
def exec_res_2_a (s : State) : Host.Outcome State Fault Refusal := opRes 8 .b2 (.reg .a) s

/-- RES 3,B (R724). -/
def exec_res_3_b (s : State) : Host.Outcome State Fault Refusal := opRes 8 .b3 (.reg .b) s

/-- RES 3,C (R724). -/
def exec_res_3_c (s : State) : Host.Outcome State Fault Refusal := opRes 8 .b3 (.reg .c) s

/-- RES 3,D (R724). -/
def exec_res_3_d (s : State) : Host.Outcome State Fault Refusal := opRes 8 .b3 (.reg .d) s

/-- RES 3,E (R724). -/
def exec_res_3_e (s : State) : Host.Outcome State Fault Refusal := opRes 8 .b3 (.reg .e) s

/-- RES 3,H (R724). -/
def exec_res_3_h (s : State) : Host.Outcome State Fault Refusal := opRes 8 .b3 (.reg .h) s

/-- RES 3,L (R724). -/
def exec_res_3_l (s : State) : Host.Outcome State Fault Refusal := opRes 8 .b3 (.reg .l) s

/-- RES 3,(HL) (R725). -/
def exec_res_3_atHL (s : State) : Host.Outcome State Fault Refusal := opRes 16 .b3 .atHL s

/-- RES 3,A (R724). -/
def exec_res_3_a (s : State) : Host.Outcome State Fault Refusal := opRes 8 .b3 (.reg .a) s

/-- RES 4,B (R724). -/
def exec_res_4_b (s : State) : Host.Outcome State Fault Refusal := opRes 8 .b4 (.reg .b) s

/-- RES 4,C (R724). -/
def exec_res_4_c (s : State) : Host.Outcome State Fault Refusal := opRes 8 .b4 (.reg .c) s

/-- RES 4,D (R724). -/
def exec_res_4_d (s : State) : Host.Outcome State Fault Refusal := opRes 8 .b4 (.reg .d) s

/-- RES 4,E (R724). -/
def exec_res_4_e (s : State) : Host.Outcome State Fault Refusal := opRes 8 .b4 (.reg .e) s

/-- RES 4,H (R724). -/
def exec_res_4_h (s : State) : Host.Outcome State Fault Refusal := opRes 8 .b4 (.reg .h) s

/-- RES 4,L (R724). -/
def exec_res_4_l (s : State) : Host.Outcome State Fault Refusal := opRes 8 .b4 (.reg .l) s

/-- RES 4,(HL) (R725). -/
def exec_res_4_atHL (s : State) : Host.Outcome State Fault Refusal := opRes 16 .b4 .atHL s

/-- RES 4,A (R724). -/
def exec_res_4_a (s : State) : Host.Outcome State Fault Refusal := opRes 8 .b4 (.reg .a) s

/-- RES 5,B (R724). -/
def exec_res_5_b (s : State) : Host.Outcome State Fault Refusal := opRes 8 .b5 (.reg .b) s

/-- RES 5,C (R724). -/
def exec_res_5_c (s : State) : Host.Outcome State Fault Refusal := opRes 8 .b5 (.reg .c) s

/-- RES 5,D (R724). -/
def exec_res_5_d (s : State) : Host.Outcome State Fault Refusal := opRes 8 .b5 (.reg .d) s

/-- RES 5,E (R724). -/
def exec_res_5_e (s : State) : Host.Outcome State Fault Refusal := opRes 8 .b5 (.reg .e) s

/-- RES 5,H (R724). -/
def exec_res_5_h (s : State) : Host.Outcome State Fault Refusal := opRes 8 .b5 (.reg .h) s

/-- RES 5,L (R724). -/
def exec_res_5_l (s : State) : Host.Outcome State Fault Refusal := opRes 8 .b5 (.reg .l) s

/-- RES 5,(HL) (R725). -/
def exec_res_5_atHL (s : State) : Host.Outcome State Fault Refusal := opRes 16 .b5 .atHL s

/-- RES 5,A (R724). -/
def exec_res_5_a (s : State) : Host.Outcome State Fault Refusal := opRes 8 .b5 (.reg .a) s

/-- RES 6,B (R724). -/
def exec_res_6_b (s : State) : Host.Outcome State Fault Refusal := opRes 8 .b6 (.reg .b) s

/-- RES 6,C (R724). -/
def exec_res_6_c (s : State) : Host.Outcome State Fault Refusal := opRes 8 .b6 (.reg .c) s

/-- RES 6,D (R724). -/
def exec_res_6_d (s : State) : Host.Outcome State Fault Refusal := opRes 8 .b6 (.reg .d) s

/-- RES 6,E (R724). -/
def exec_res_6_e (s : State) : Host.Outcome State Fault Refusal := opRes 8 .b6 (.reg .e) s

/-- RES 6,H (R724). -/
def exec_res_6_h (s : State) : Host.Outcome State Fault Refusal := opRes 8 .b6 (.reg .h) s

/-- RES 6,L (R724). -/
def exec_res_6_l (s : State) : Host.Outcome State Fault Refusal := opRes 8 .b6 (.reg .l) s

/-- RES 6,(HL) (R725). -/
def exec_res_6_atHL (s : State) : Host.Outcome State Fault Refusal := opRes 16 .b6 .atHL s

/-- RES 6,A (R724). -/
def exec_res_6_a (s : State) : Host.Outcome State Fault Refusal := opRes 8 .b6 (.reg .a) s

/-- RES 7,B (R724). -/
def exec_res_7_b (s : State) : Host.Outcome State Fault Refusal := opRes 8 .b7 (.reg .b) s

/-- RES 7,C (R724). -/
def exec_res_7_c (s : State) : Host.Outcome State Fault Refusal := opRes 8 .b7 (.reg .c) s

/-- RES 7,D (R724). -/
def exec_res_7_d (s : State) : Host.Outcome State Fault Refusal := opRes 8 .b7 (.reg .d) s

/-- RES 7,E (R724). -/
def exec_res_7_e (s : State) : Host.Outcome State Fault Refusal := opRes 8 .b7 (.reg .e) s

/-- RES 7,H (R724). -/
def exec_res_7_h (s : State) : Host.Outcome State Fault Refusal := opRes 8 .b7 (.reg .h) s

/-- RES 7,L (R724). -/
def exec_res_7_l (s : State) : Host.Outcome State Fault Refusal := opRes 8 .b7 (.reg .l) s

/-- RES 7,(HL) (R725). -/
def exec_res_7_atHL (s : State) : Host.Outcome State Fault Refusal := opRes 16 .b7 .atHL s

/-- RES 7,A (R724). -/
def exec_res_7_a (s : State) : Host.Outcome State Fault Refusal := opRes 8 .b7 (.reg .a) s

/-- SET 0,B (R726). -/
def exec_set_0_b (s : State) : Host.Outcome State Fault Refusal := opSet 8 .b0 (.reg .b) s

/-- SET 0,C (R726). -/
def exec_set_0_c (s : State) : Host.Outcome State Fault Refusal := opSet 8 .b0 (.reg .c) s

/-- SET 0,D (R726). -/
def exec_set_0_d (s : State) : Host.Outcome State Fault Refusal := opSet 8 .b0 (.reg .d) s

/-- SET 0,E (R726). -/
def exec_set_0_e (s : State) : Host.Outcome State Fault Refusal := opSet 8 .b0 (.reg .e) s

/-- SET 0,H (R726). -/
def exec_set_0_h (s : State) : Host.Outcome State Fault Refusal := opSet 8 .b0 (.reg .h) s

/-- SET 0,L (R726). -/
def exec_set_0_l (s : State) : Host.Outcome State Fault Refusal := opSet 8 .b0 (.reg .l) s

/-- SET 0,(HL) (R727). -/
def exec_set_0_atHL (s : State) : Host.Outcome State Fault Refusal := opSet 16 .b0 .atHL s

/-- SET 0,A (R726). -/
def exec_set_0_a (s : State) : Host.Outcome State Fault Refusal := opSet 8 .b0 (.reg .a) s

/-- SET 1,B (R726). -/
def exec_set_1_b (s : State) : Host.Outcome State Fault Refusal := opSet 8 .b1 (.reg .b) s

/-- SET 1,C (R726). -/
def exec_set_1_c (s : State) : Host.Outcome State Fault Refusal := opSet 8 .b1 (.reg .c) s

/-- SET 1,D (R726). -/
def exec_set_1_d (s : State) : Host.Outcome State Fault Refusal := opSet 8 .b1 (.reg .d) s

/-- SET 1,E (R726). -/
def exec_set_1_e (s : State) : Host.Outcome State Fault Refusal := opSet 8 .b1 (.reg .e) s

/-- SET 1,H (R726). -/
def exec_set_1_h (s : State) : Host.Outcome State Fault Refusal := opSet 8 .b1 (.reg .h) s

/-- SET 1,L (R726). -/
def exec_set_1_l (s : State) : Host.Outcome State Fault Refusal := opSet 8 .b1 (.reg .l) s

/-- SET 1,(HL) (R727). -/
def exec_set_1_atHL (s : State) : Host.Outcome State Fault Refusal := opSet 16 .b1 .atHL s

/-- SET 1,A (R726). -/
def exec_set_1_a (s : State) : Host.Outcome State Fault Refusal := opSet 8 .b1 (.reg .a) s

/-- SET 2,B (R726). -/
def exec_set_2_b (s : State) : Host.Outcome State Fault Refusal := opSet 8 .b2 (.reg .b) s

/-- SET 2,C (R726). -/
def exec_set_2_c (s : State) : Host.Outcome State Fault Refusal := opSet 8 .b2 (.reg .c) s

/-- SET 2,D (R726). -/
def exec_set_2_d (s : State) : Host.Outcome State Fault Refusal := opSet 8 .b2 (.reg .d) s

/-- SET 2,E (R726). -/
def exec_set_2_e (s : State) : Host.Outcome State Fault Refusal := opSet 8 .b2 (.reg .e) s

/-- SET 2,H (R726). -/
def exec_set_2_h (s : State) : Host.Outcome State Fault Refusal := opSet 8 .b2 (.reg .h) s

/-- SET 2,L (R726). -/
def exec_set_2_l (s : State) : Host.Outcome State Fault Refusal := opSet 8 .b2 (.reg .l) s

/-- SET 2,(HL) (R727). -/
def exec_set_2_atHL (s : State) : Host.Outcome State Fault Refusal := opSet 16 .b2 .atHL s

/-- SET 2,A (R726). -/
def exec_set_2_a (s : State) : Host.Outcome State Fault Refusal := opSet 8 .b2 (.reg .a) s

/-- SET 3,B (R726). -/
def exec_set_3_b (s : State) : Host.Outcome State Fault Refusal := opSet 8 .b3 (.reg .b) s

/-- SET 3,C (R726). -/
def exec_set_3_c (s : State) : Host.Outcome State Fault Refusal := opSet 8 .b3 (.reg .c) s

/-- SET 3,D (R726). -/
def exec_set_3_d (s : State) : Host.Outcome State Fault Refusal := opSet 8 .b3 (.reg .d) s

/-- SET 3,E (R726). -/
def exec_set_3_e (s : State) : Host.Outcome State Fault Refusal := opSet 8 .b3 (.reg .e) s

/-- SET 3,H (R726). -/
def exec_set_3_h (s : State) : Host.Outcome State Fault Refusal := opSet 8 .b3 (.reg .h) s

/-- SET 3,L (R726). -/
def exec_set_3_l (s : State) : Host.Outcome State Fault Refusal := opSet 8 .b3 (.reg .l) s

/-- SET 3,(HL) (R727). -/
def exec_set_3_atHL (s : State) : Host.Outcome State Fault Refusal := opSet 16 .b3 .atHL s

/-- SET 3,A (R726). -/
def exec_set_3_a (s : State) : Host.Outcome State Fault Refusal := opSet 8 .b3 (.reg .a) s

/-- SET 4,B (R726). -/
def exec_set_4_b (s : State) : Host.Outcome State Fault Refusal := opSet 8 .b4 (.reg .b) s

/-- SET 4,C (R726). -/
def exec_set_4_c (s : State) : Host.Outcome State Fault Refusal := opSet 8 .b4 (.reg .c) s

/-- SET 4,D (R726). -/
def exec_set_4_d (s : State) : Host.Outcome State Fault Refusal := opSet 8 .b4 (.reg .d) s

/-- SET 4,E (R726). -/
def exec_set_4_e (s : State) : Host.Outcome State Fault Refusal := opSet 8 .b4 (.reg .e) s

/-- SET 4,H (R726). -/
def exec_set_4_h (s : State) : Host.Outcome State Fault Refusal := opSet 8 .b4 (.reg .h) s

/-- SET 4,L (R726). -/
def exec_set_4_l (s : State) : Host.Outcome State Fault Refusal := opSet 8 .b4 (.reg .l) s

/-- SET 4,(HL) (R727). -/
def exec_set_4_atHL (s : State) : Host.Outcome State Fault Refusal := opSet 16 .b4 .atHL s

/-- SET 4,A (R726). -/
def exec_set_4_a (s : State) : Host.Outcome State Fault Refusal := opSet 8 .b4 (.reg .a) s

/-- SET 5,B (R726). -/
def exec_set_5_b (s : State) : Host.Outcome State Fault Refusal := opSet 8 .b5 (.reg .b) s

/-- SET 5,C (R726). -/
def exec_set_5_c (s : State) : Host.Outcome State Fault Refusal := opSet 8 .b5 (.reg .c) s

/-- SET 5,D (R726). -/
def exec_set_5_d (s : State) : Host.Outcome State Fault Refusal := opSet 8 .b5 (.reg .d) s

/-- SET 5,E (R726). -/
def exec_set_5_e (s : State) : Host.Outcome State Fault Refusal := opSet 8 .b5 (.reg .e) s

/-- SET 5,H (R726). -/
def exec_set_5_h (s : State) : Host.Outcome State Fault Refusal := opSet 8 .b5 (.reg .h) s

/-- SET 5,L (R726). -/
def exec_set_5_l (s : State) : Host.Outcome State Fault Refusal := opSet 8 .b5 (.reg .l) s

/-- SET 5,(HL) (R727). -/
def exec_set_5_atHL (s : State) : Host.Outcome State Fault Refusal := opSet 16 .b5 .atHL s

/-- SET 5,A (R726). -/
def exec_set_5_a (s : State) : Host.Outcome State Fault Refusal := opSet 8 .b5 (.reg .a) s

/-- SET 6,B (R726). -/
def exec_set_6_b (s : State) : Host.Outcome State Fault Refusal := opSet 8 .b6 (.reg .b) s

/-- SET 6,C (R726). -/
def exec_set_6_c (s : State) : Host.Outcome State Fault Refusal := opSet 8 .b6 (.reg .c) s

/-- SET 6,D (R726). -/
def exec_set_6_d (s : State) : Host.Outcome State Fault Refusal := opSet 8 .b6 (.reg .d) s

/-- SET 6,E (R726). -/
def exec_set_6_e (s : State) : Host.Outcome State Fault Refusal := opSet 8 .b6 (.reg .e) s

/-- SET 6,H (R726). -/
def exec_set_6_h (s : State) : Host.Outcome State Fault Refusal := opSet 8 .b6 (.reg .h) s

/-- SET 6,L (R726). -/
def exec_set_6_l (s : State) : Host.Outcome State Fault Refusal := opSet 8 .b6 (.reg .l) s

/-- SET 6,(HL) (R727). -/
def exec_set_6_atHL (s : State) : Host.Outcome State Fault Refusal := opSet 16 .b6 .atHL s

/-- SET 6,A (R726). -/
def exec_set_6_a (s : State) : Host.Outcome State Fault Refusal := opSet 8 .b6 (.reg .a) s

/-- SET 7,B (R726). -/
def exec_set_7_b (s : State) : Host.Outcome State Fault Refusal := opSet 8 .b7 (.reg .b) s

/-- SET 7,C (R726). -/
def exec_set_7_c (s : State) : Host.Outcome State Fault Refusal := opSet 8 .b7 (.reg .c) s

/-- SET 7,D (R726). -/
def exec_set_7_d (s : State) : Host.Outcome State Fault Refusal := opSet 8 .b7 (.reg .d) s

/-- SET 7,E (R726). -/
def exec_set_7_e (s : State) : Host.Outcome State Fault Refusal := opSet 8 .b7 (.reg .e) s

/-- SET 7,H (R726). -/
def exec_set_7_h (s : State) : Host.Outcome State Fault Refusal := opSet 8 .b7 (.reg .h) s

/-- SET 7,L (R726). -/
def exec_set_7_l (s : State) : Host.Outcome State Fault Refusal := opSet 8 .b7 (.reg .l) s

/-- SET 7,(HL) (R727). -/
def exec_set_7_atHL (s : State) : Host.Outcome State Fault Refusal := opSet 16 .b7 .atHL s

/-- SET 7,A (R726). -/
def exec_set_7_a (s : State) : Host.Outcome State Fault Refusal := opSet 8 .b7 (.reg .a) s

end Sys2Proof.Machine
end

