-- ==== Sys2Proof/Machine/System.lean ====
section
/-! DEFINITION. System instructions (46_system R800 to R806), the undefined opcodes and the prefix row. -/

namespace Sys2Proof.Machine

/-- NOP (R801). -/
def opNop : State → Host.Outcome State Fault Refusal := instruction 1 4 id

/-- The effect of HALT (R802): park if nothing is pending, else go on; with IME = 0 as `HALT_BUG` says. -/
def haltEffect (s : State) : State :=
  if pendingIrqs s = 0 then { s with halted := true }
  else if s.ime then s
  else
    match s.params.haltBug with
    | .none => s
    | .repeatByte => { s with haltRepeat := true }

/-- HALT (R802). -/
def opHalt : State → Host.Outcome State Fault Refusal := instruction 1 4 haltEffect

/-- The speed switch (R803): the speed toggled, KEY1[0] cleared, DIV reset. -/
def speedSwitch (s : State) : State :=
  { resetDiv (s.setIo 0x4D (setBit (s.ioByte 0x4D) 0 false)) with doubleSpeed := !s.doubleSpeed }

/-- The effect of STOP (R803): the speed switch when it is prepared, else park. -/
def stopEffect (s : State) : State :=
  if s.cgbMode && bit (s.ioByte 0x4D) 0 then speedSwitch s else { s with stopped := true }

/-- STOP (R803): the second byte is fetched and ignored. -/
def opStop (_n : Byte) : State → Host.Outcome State Fault Refusal := instruction 2 4 stopEffect

/-- DI (R804). -/
def opDi : State → Host.Outcome State Fault Refusal :=
  instruction 1 4 fun s => { s with ime := false, imeArmed := false }

/-- EI (R805): IME becomes 1 at the end of the next instruction (R800). -/
def opEi : State → Host.Outcome State Fault Refusal :=
  instruction 1 4 fun s => if s.ime then s else { s with imeArmed := true }

/-- An undefined opcode (R806, R1130): no byte is consumed, no cycle passes. -/
def opIllegal (op : IllegalOp) (s : State) : Host.Outcome State Fault Refusal :=
  .next (raiseIllegal op.byte s)

/-- NOP (R801). -/
def exec_nop (s : State) : Host.Outcome State Fault Refusal := opNop s

/-- STOP (R803). -/
def exec_stop (n : Byte) (s : State) : Host.Outcome State Fault Refusal := opStop n s

/-- HALT (R802). -/
def exec_halt (s : State) : Host.Outcome State Fault Refusal := opHalt s

/-- PREFIX CB (R705). -/
def exec_prefix_cb (c : Byte) (s : State) : Host.Outcome State Fault Refusal := opCbByte c s

/-- ILLEGAL_D3 (R806). -/
def exec_illegal_d3 (s : State) : Host.Outcome State Fault Refusal := opIllegal .d3 s

/-- ILLEGAL_DB (R806). -/
def exec_illegal_db (s : State) : Host.Outcome State Fault Refusal := opIllegal .db s

/-- ILLEGAL_DD (R806). -/
def exec_illegal_dd (s : State) : Host.Outcome State Fault Refusal := opIllegal .dd s

/-- ILLEGAL_E3 (R806). -/
def exec_illegal_e3 (s : State) : Host.Outcome State Fault Refusal := opIllegal .e3 s

/-- ILLEGAL_E4 (R806). -/
def exec_illegal_e4 (s : State) : Host.Outcome State Fault Refusal := opIllegal .e4 s

/-- ILLEGAL_EB (R806). -/
def exec_illegal_eb (s : State) : Host.Outcome State Fault Refusal := opIllegal .eb s

/-- ILLEGAL_EC (R806). -/
def exec_illegal_ec (s : State) : Host.Outcome State Fault Refusal := opIllegal .ec s

/-- ILLEGAL_ED (R806). -/
def exec_illegal_ed (s : State) : Host.Outcome State Fault Refusal := opIllegal .ed s

/-- DI (R804). -/
def exec_di (s : State) : Host.Outcome State Fault Refusal := opDi s

/-- ILLEGAL_F4 (R806). -/
def exec_illegal_f4 (s : State) : Host.Outcome State Fault Refusal := opIllegal .f4 s

/-- EI (R805). -/
def exec_ei (s : State) : Host.Outcome State Fault Refusal := opEi s

/-- ILLEGAL_FC (R806). -/
def exec_illegal_fc (s : State) : Host.Outcome State Fault Refusal := opIllegal .fc s

/-- ILLEGAL_FD (R806). -/
def exec_illegal_fd (s : State) : Host.Outcome State Fault Refusal := opIllegal .fd s

end Sys2Proof.Machine
end

