-- ==== Sys2Proof/Machine/Render.lean ====
section
/-! DEFINITION. The scanline renderer (50_ppu R910 to R960): the tile maps, the window, the sprites, the priority
compositor and the colours, all read from VRAM, OAM, the registers and the palettes as they are when the
line is rendered (R920, R929, R932). -/

namespace Sys2Proof.Machine

/-! ## Tiles -/

/-- The VRAM byte at offset `off` (0..0x1FFF) of bank `bank`, read directly, not through VBK (R911, R932). -/
def vramAt (s : State) (bank off : Nat) : Byte := s.vram.read (bank * 0x2000 + off % 0x2000)

/-- The colour index at column `c` of a tile row given by its two bytes (R910). -/
def colourIndex (lo hi : Byte) (c : Nat) : BitVec 2 :=
  BitVec.ofNat 2 (2 * bitNat (bit hi (7 - c)) + bitNat (bit lo (7 - c)))

/-- The colour index at (row, col) of the tile at VRAM offset `tile` in `bank` (R910). -/
def tilePixel (s : State) (bank tile row col : Nat) : BitVec 2 :=
  colourIndex (vramAt s bank (tile + 2 * row)) (vramAt s bank (tile + 2 * row + 1)) col

/-- The VRAM offset of background or window tile `t` under LCDC (R911). -/
def bgTileOffset (lcdc t : Byte) : Nat :=
  if bit lcdc 4 then 16 * t.toNat else (0x1000 + 16 * t.toInt).toNat

/-! ## Background and window -/

/-- A background or window pixel: its colour index and its tile's attribute byte (R912, R913). -/
structure BgPixel where
  index : BitVec 2
  attr : Byte
deriving DecidableEq, Repr

/-- The pixel at map coordinates (x, y), each 0..255, of the tile map at 0x9C00 (`high`) or 0x9800 (R912, R913). -/
def mapPixel (s : State) (high : Bool) (x y : Nat) : BgPixel :=
  let off := (if high then 0x1C00 else 0x1800) + y / 8 * 32 + x / 8
  let t := vramAt s 0 off
  let attr := if s.cgbMode then vramAt s 1 off else 0
  let row := if bit attr 6 then 7 - y % 8 else y % 8
  let col := if bit attr 5 then 7 - x % 8 else x % 8
  ⟨tilePixel s (if s.cgbMode then bitNat (bit attr 3) else 0) (bgTileOffset (s.ioByte 0x40) t) row col, attr⟩

/-- The window is visible on line `ly` (R914). -/
def windowVisible (s : State) (ly : Byte) : Bool :=
  bit (s.ioByte 0x40) 5 && decide ((s.ioByte 0x4A).toNat ≤ ly.toNat) && decide ((s.ioByte 0x4B).toNat ≤ 166)

/-- Neither background nor window is drawn: LCDC[0] = 0 when not `cgb_mode` (R915). -/
def bgDisabled (s : State) : Bool := !s.cgbMode && !bit (s.ioByte 0x40) 0

/-- The window covers pixel `px` of line `ly` (R914). -/
def windowCovers (s : State) (ly : Byte) (px : Nat) : Bool :=
  windowVisible s ly && decide (px + 7 ≥ (s.ioByte 0x4B).toNat)

/-- The background or window pixel at (px, ly) (R912, R914, R915). -/
def bgPixelAt (s : State) (ly : Byte) (px : Nat) : BgPixel :=
  if bgDisabled s then ⟨0, 0⟩
  else if windowCovers s ly px then
    mapPixel s (bit (s.ioByte 0x40) 6) (px + 7 - (s.ioByte 0x4B).toNat) s.ppu.windowLine.toNat
  else
    mapPixel s (bit (s.ioByte 0x40) 3) ((px + (s.ioByte 0x43).toNat) % 256)
      ((ly.toNat + (s.ioByte 0x42).toNat) % 256)

/-! ## Sprites -/

/-- An OAM entry (R940). -/
structure Sprite where
  /-- Y + 16. -/
  y : Byte
  /-- X + 8. -/
  x : Byte
  tile : Byte
  attr : Byte
deriving DecidableEq, Repr

/-- OAM entry `i` (R940). -/
def spriteAt (s : State) (i : Nat) : Sprite :=
  ⟨s.oam.read (4 * i), s.oam.read (4 * i + 1), s.oam.read (4 * i + 2), s.oam.read (4 * i + 3)⟩

/-- The sprite height, 16 if LCDC[2] = 1, else 8 (R940). -/
def spriteHeight (s : State) : Nat := if bit (s.ioByte 0x40) 2 then 16 else 8

/-- `Y - 16 <= ly < Y - 16 + h` (R940). -/
def Sprite.onLine (o : Sprite) (h : Nat) (ly : Byte) : Bool :=
  decide (o.y.toNat ≤ ly.toNat + 16) && decide (ly.toNat + 16 < o.y.toNat + h)

/-- The entries on line `ly` in OAM order, none when LCDC[1] = 0, the first ten under `TEN` (R940). -/
def spritesOnLine (s : State) (ly : Byte) : List Sprite :=
  let all := ((List.range 40).map (spriteAt s)).filter fun o => o.onLine (spriteHeight s) ly
  if bit (s.ioByte 0x40) 1 then
    match s.params.spriteLineLimit with
    | .ten => all.take 10
    | .none => all
  else []

/-- `o` put into a list ordered by X, after those with its own X or a lower one (R944). -/
def insertSprite (o : Sprite) : List Sprite → List Sprite
  | [] => [o]
  | p :: rest => if o.x.toNat < p.x.toNat then o :: p :: rest else p :: insertSprite o rest

/-- The sprites in priority order: lower X first, on equal X the earlier in OAM (R944). -/
def bySpritePriority (l : List Sprite) : List Sprite := l.foldl (fun acc o => insertSprite o acc) []

/-- The colour index of a sprite's pixel at screen column `px` of line `ly`, if the sprite reaches it (R941). -/
def spritePixel (s : State) (o : Sprite) (ly : Byte) (px : Nat) : Option (BitVec 2) :=
  if o.x.toNat ≤ px + 8 ∧ px + 8 < o.x.toNat + 8 then
    let h := spriteHeight s
    let row0 := ly.toNat + 16 - o.y.toNat
    let row := if bit o.attr 6 then h - 1 - row0 else row0
    let t := if h = 16 then (if row < 8 then o.tile &&& 0xFE else o.tile ||| 0x01) else o.tile
    let c := px + 8 - o.x.toNat
    let col := if bit o.attr 5 then 7 - c else c
    some (tilePixel s (if s.cgbMode then bitNat (bit o.attr 3) else 0) (16 * t.toNat) (row % 8) col)
  else none

/-- The sprite's pixel is drawn: it reaches `px` and is not transparent (R941). -/
def Sprite.opaqueAt (s : State) (o : Sprite) (ly : Byte) (px : Nat) : Bool :=
  match spritePixel s o ly px with
  | some i => i != 0
  | none => false

/-! ## Colour -/

/-- The shade of colour index `i` in a DMG palette register (R960, R99). -/
def shadeOf (palette : Byte) (i : BitVec 2) : BitVec 2 := BitVec.ofNat 2 (palette.toNat / 2 ^ (2 * i.toNat))

/-- Colour `i` of palette `p` in a CGB palette memory, mod 2^15 (R110, R960). -/
def paletteColour (pal : Memory) (p : Nat) (i : BitVec 2) : BitVec 15 :=
  BitVec.ofNat 15 ((pal.read (8 * p + 2 * i.toNat)).toNat + 256 * (pal.read (8 * p + 2 * i.toNat + 1)).toNat)

/-- The output of a background or window pixel (R915, R960). -/
def bgOut (s : State) (p : BgPixel) : Pixel :=
  if s.cgbMode then .cgb (paletteColour s.bgPal (field p.attr 2 0) p.index)
  else if bgDisabled s then .dmg 0
  else .dmg (shadeOf (s.ioByte 0x47) p.index)

/-- The output of a sprite pixel of colour index `i` (R960). -/
def spriteOut (s : State) (o : Sprite) (i : BitVec 2) : Pixel :=
  if s.cgbMode then .cgb (paletteColour s.objPal (field o.attr 2 0) i)
  else .dmg (shadeOf (if bit o.attr 4 then s.ioByte 0x49 else s.ioByte 0x48) i)

/-- The RGBA value of a pixel, through the OPEN colour maps (R960). -/
def Pixel.rgba : Pixel → Rgba
  | .dmg shade => Config.dmgRgb shade
  | .cgb colour => Config.cgbRgb colour

/-! ## The compositor -/

/-- `master`: LCDC[0] when `cgb_mode`, else 1 (R945). -/
def masterPriority (s : State) : Bool := if s.cgbMode then bit (s.ioByte 0x40) 0 else true

/-- A sprite is foreground: attr bit 7 = 0, or `cgb_mode` with master 0 (R945). -/
def Sprite.foreground (s : State) (o : Sprite) : Bool := !bit o.attr 7 || (s.cgbMode && !masterPriority s)

/-- The output of a sprite known to be opaque at `px`. -/
def spriteOutAt (s : State) (o : Sprite) (ly : Byte) (px : Nat) : Pixel :=
  spriteOut s o ((spritePixel s o ly px).getD 0)

/-- One composed pixel from the line's sprites in priority order (R945). -/
def composePixel (s : State) (sprites : List Sprite) (ly : Byte) (px : Nat) : Pixel :=
  let bg := bgPixelAt s ly px
  let front := sprites.find? fun o => o.foreground s && o.opaqueAt s ly px
  let back := sprites.find? fun o => !o.foreground s && o.opaqueAt s ly px
  if s.cgbMode && masterPriority s && bit bg.attr 7 && bg.index != 0 then bgOut s bg
  else
    match front with
    | some o => spriteOutAt s o ly px
    | none =>
      match back with
      | some o => if bg.index = 0 then spriteOutAt s o ly px else bgOut s bg
      | none => bgOut s bg

/-- The 160 pixels of line `ly` (R920). -/
def renderedLine (s : State) (ly : Byte) : List Pixel :=
  let sprites := bySpritePriority (spritesOnLine s ly)
  (List.range 160).map (composePixel s sprites ly)

/-- `render_line(ly)` (R920): row `ly` of the back buffer is written, then the window line counter moves if the
line drew a window pixel (R925). -/
def renderLine (s : State) (ly : Byte) : State :=
  { s with ppu := { s.ppu with
      backBuffer := s.ppu.backBuffer.set ly.toNat (renderedLine s ly)
      windowLine := if windowVisible s ly && !bgDisabled s then s.ppu.windowLine + 1 else s.ppu.windowLine } }

/-- `publish_frame()` (R930): the back buffer becomes the published frame and the observer is called. -/
def publishFrame (s : State) : State :=
  { s with
    ppu := { s.ppu with publishedFrame := some s.ppu.backBuffer }
    host := { s.host with framesReady := s.host.framesReady + 1 } }

end Sys2Proof.Machine
end

