-- ==== Sys2Proof/Machine/Events.lean ====
section
/-! DEFINITION. The event scheduler (60_exceptions R1102), the PPU mode machine (50_ppu R903, R906), the interrupt
check and dispatch (60_exceptions R1120, R1121). -/

namespace Sys2Proof.Machine

/-! ## The PPU events -/

/-- The PPU in mode `m` with its next deadline at `d`. -/
def enterMode (s : State) (m : PpuMode) (d : Nat) : State :=
  { s with ppu := { s.ppu with mode := m, modeDeadline := some d } }

/-- Mode 2 ends (R903): mode 3 is entered and the line is rendered. -/
def modeEvent2 (s : State) (d : Nat) : State :=
  let t := enterMode s .transfer (d + 172 * speedFactor s)
  renderLine t t.ppu.ly

/-- Mode 3 ends (R903): mode 0 is entered, with its STAT request and an HBlank DMA block. -/
def modeEvent3 (s : State) (d : Nat) : State :=
  let t := enterMode s .hblank (d + 204 * speedFactor s)
  let u := requestIrqIf t (bit (t.ioByte 0x41) 3) 1
  if u.hdma.active then hdmaBlock u else u

/-- The entry to line 144 (R903): VBlank, the mode-1 STAT request, the frame, the APU's tick. -/
def enterVblank (s : State) (d : Nat) : State :=
  let t := requestIrq (enterMode s .vblank (d + 456 * speedFactor s)) 0
  let u := apuFrameTick (publishFrame (requestIrqIf t (bit (t.ioByte 0x41) 4) 1))
  { u with ppu := { u.ppu with windowLine := 0 } }

/-- The entry to mode 2 of the line LY already holds (R903). -/
def enterSearch (s : State) (d : Nat) : State :=
  let t := enterMode s .search (d + 80 * speedFactor s)
  requestIrqIf t (bit (t.ioByte 0x41) 5) 1

/-- Mode 0 ends (R903): the next line, or vblank. -/
def modeEvent0 (s : State) (d : Nat) : State :=
  let t := setLy s (s.ppu.ly + 1)
  if t.ppu.ly = 144 then enterVblank t d else enterSearch t d

/-- A line of mode 1 ends (R903). -/
def modeEvent1 (s : State) (d : Nat) : State :=
  if s.ppu.ly = 153 then enterSearch (setLy s 0) d
  else enterMode (setLy s (s.ppu.ly + 1)) .vblank (d + 456 * speedFactor s)

/-- The mode event at deadline `d` (R903). -/
def modeEvent (s : State) (d : Nat) : State :=
  match s.ppu.mode with
  | .search => modeEvent2 s d
  | .transfer => modeEvent3 s d
  | .hblank => modeEvent0 s d
  | .vblank => modeEvent1 s d

/-- The off-frame event at deadline `d` (R906): a blank frame is published and the APU ticks. -/
def offFrameEvent (s : State) (d : Nat) : State :=
  let t := { s with ppu := { s.ppu with
    backBuffer := Frame.uniform (.dmg 0), frameDeadlineOff := some (d + 70224 * speedFactor s) } }
  apuFrameTick (publishFrame t)

/-! ## The scheduler -/

/-- The three kinds of event, in their order on a tie (R1102). -/
inductive EventKind where
  | ppu
  | timer
  | serial
deriving DecidableEq, Repr

/-- The PPU's deadline: the mode deadline while the LCD is on, the off-frame deadline while it is not (R1102). -/
def ppuDeadline (s : State) : Option Nat := if lcdOn s then s.ppu.modeDeadline else s.ppu.frameDeadlineOff

/-- The earlier of two scheduled events, the first on a tie. -/
def earlier (x y : Option (Nat × EventKind)) : Option (Nat × EventKind) :=
  match x, y with
  | some p, some q => if q.1 < p.1 then some q else some p
  | some p, none => some p
  | none, q => q

/-- The next scheduled event (R59, R1102). -/
def nextScheduled (s : State) : Option (Nat × EventKind) :=
  earlier (earlier ((ppuDeadline s).map fun d => (d, .ppu)) (s.timer.deadline.map fun d => (d, .timer)))
    (s.serialDeadline.map fun d => (d, .serial))

/-- The event of kind `k` at its deadline `d` (R1102). -/
def runEvent (s : State) (k : EventKind) (d : Nat) : State :=
  match k with
  | .ppu => if lcdOn s then modeEvent s d else offFrameEvent s d
  | .timer => timerEvent s d
  | .serial => serialEvent s

/-- At most `n` due events, earliest first. -/
def processDue : Nat → State → State
  | 0, s => s
  | n + 1, s =>
    match nextScheduled s with
    | some (d, k) => if d ≤ s.counter then processDue n (runEvent s k d) else s
    | none => s

/-- A bound on the number of due events: every event moves its own deadline on, so each deadline is due at most
`counter + 1` times (log 18). -/
def eventBound (s : State) : Nat := 3 * (s.counter + 1)

/-- `process_events()` (R1102): due events in time order until none is due. -/
def processEvents (s : State) : State := processDue (eventBound s) s

/-! ## Interrupts -/

/-- The lowest set bit of the pending set: VBlank, STAT, Timer, Serial, Joypad in that order (R1120). -/
def lowestIrq (p : Byte) : Nat :=
  if bit p 0 then 0
  else if bit p 1 then 1
  else if bit p 2 then 2
  else if bit p 3 then 3
  else 4

/-- `dispatch(k)` (R1121): the entry, then the events of its 20 cycles. -/
def dispatch (k : Nat) (s : State) : State := processEvents (takeInterrupt k s)

/-- `interrupt_check()` (R1120). -/
def interruptCheck (s : State) : State :=
  if pendingIrqs s = 0 then s
  else
    let t := { s with halted := false }
    if t.ime then dispatch (lowestIrq (pendingIrqs t)) t else t

/-! ## Parts of a step -/

/-- A parked core's time moves to the next event, and the due events run (R1101, R802). -/
def advanceToEvent (s : State) : State :=
  match nextScheduled s with
  | some (d, _) => processEvents { s with counter := max s.counter d }
  | none => s

/-- The end-of-instruction IME update; `armed` is IME_ARMED when the instruction started (R800). -/
def endOfInstruction (armed : Bool) (s : State) : State :=
  if armed && s.imeArmed then { s with ime := true, imeArmed := false } else s

/-! ## Placing bytes -/

/-- The byte a bus read at `addr` shows, set from outside the machine: memory contents only, with no register
effect; an I/O address or an absent one is left alone. -/
def poke (s : State) (addr : Word) (v : Byte) : State :=
  match placeOf s addr with
  | .rom k => { s with rom := s.rom.write k v }
  | .vram k => { s with vram := s.vram.write k v }
  | .cartRam off =>
    match cartRamTarget s off with
    | .ram k => { s with cram := s.cram.write k v }
    | _ => s
  | .wram k => { s with wram := s.wram.write k v }
  | .oam k => { s with oam := s.oam.write k v }
  | .io _ => s
  | .hram k => { s with hram := s.hram.write k v }
  | .ie => { s with ie := v }

/-- Bytes placed at `addr`, `addr + 1`, … -/
def pokeBytes : List Byte → Word → State → State
  | [], _, s => s
  | v :: rest, addr, s => pokeBytes rest (addr + 1) (poke s addr v)

end Sys2Proof.Machine
end

