-- ==== Sys2Proof/Machine/Step.lean ====
section
/-! DEFINITION. The step (60_exceptions R1101). -/

namespace Sys2Proof.Machine

/-- A halted step (R1101): time moves to the next event unless an interrupt is pending, then the interrupt check. -/
def haltedStep (s : State) : State := interruptCheck (if pendingIrqs s = 0 then advanceToEvent s else s)

/-- What a step does after its instruction (R1101): the end-of-instruction IME update, the due events, the
interrupt check; after IllegalOpcode, nothing (R1130). -/
def afterInstruction (armed : Bool) (t : State) : State :=
  if t.fault.isSome then t else interruptCheck (processEvents (endOfInstruction armed t))

/-- The instruction part of a step: fetch and decode at PC, execute, and what follows (R1101, R405). -/
def instructionStep (s : State) : Host.Outcome State Fault Refusal :=
  match decode (fetchBytes s) with
  | .error _ => .fault .fetchTruncated
  | .ok (i, _) =>
    match exec i s with
    | .next t => .next (afterInstruction s.imeArmed t)
    | .fault r => .fault r
    | .refused r => .refused r

/-- `step()` (R1101). -/
def step (s : State) : Host.Outcome State Fault Refusal :=
  if s.fault.isSome || !s.running then .next s
  else
    let t := consumeInput s
    if t.stopped then .next t
    else if t.halted then .next (haltedStep t)
    else instructionStep t

/-- `s` with the instruction of a table word stored where `step` fetches its next one, and nothing in the way of
fetching it: running, no fault, not parked.  It stands for loading a program and calling `run()` (log 3). -/
def State.withFetchWord (s : State) (nbits w : Nat) : State :=
  { pokeBytes (tableBytes nbits w) s.regs.pc s with
    running := true, fault := none, halted := false, stopped := false, haltRepeat := false }

end Sys2Proof.Machine
end

