-- ==== Sys2Proof/Machine/HostCalls.lean ====
section
/-! DEFINITION. What the host can do between two steps (60_exceptions R1190, R1180; 20_memory R256): load a ROM image
and reset, start and stop a run, press buttons, move the wall clock, plug the audio sink, tear down, and export the
battery dump (25_cartridge R300 to R308, R360 to R363).  None of these is part of `step` (log 13). -/

namespace Sys2Proof.Machine

/-! ## Loading a cartridge -/

/-- Why an image is refused (R302, R303, R306, R307, R308). -/
inductive LoadError where
  | romSizeCode (code : Byte)
  | ramSizeCode (code : Byte)
  | cartType (t : Byte)
  | imageTooShort
deriving DecidableEq, Repr

/-- Byte `a` of an image; one that is not there reads 0x00 (such an image is refused by R307). -/
def imageByte (image : List Byte) (a : Nat) : Byte := image.getD a 0

/-- The cartridge an image makes, or why it is refused (R300 to R308).  DESIGN CHOICE: an unknown RAM size code is refused
for every controller, MBC2 too, whose RAM does not depend on it (R303, decision D45; log 30). -/
def loadCartridge (image : List Byte) : Except LoadError Cartridge :=
  match romBanksOf (imageByte image 0x0148) with
  | none => .error (.romSizeCode (imageByte image 0x0148))
  | some romBanks =>
    match ramBanksOf (imageByte image 0x0149) with
    | none => .error (.ramSizeCode (imageByte image 0x0149))
    | some ramBanks =>
      if (cartKindOf (imageByte image 0x0147)).isNone then .error (.cartType (imageByte image 0x0147))
      else if image.length < romBanks * 0x4000 then .error .imageTooShort
      else .ok { cartType := imageByte image 0x0147, romBanks := romBanks, ramBanks := ramBanks }

/-- The GBC-capable flag of an image (R304). -/
def gbcCapable (image : List Byte) : Bool := bit (imageByte image 0x0143) 7

/-! ## The battery dump -/

/-- The length of the RAM part of a dump (R361). -/
def dumpRamSize (c : Cartridge) : Nat := c.ramBanks * 8192

/-- The number whose big-endian bytes these are. -/
def ofBigEndian (bytes : List Byte) : Nat := bytes.foldl (fun n b => n * 256 + b.toNat) 0

/-- The `n` bytes of a number, the most significant first. -/
def toBigEndian : Nat → Nat → List Byte
  | 0, _ => []
  | n + 1, v => toBigEndian n (v / 256) ++ [BitVec.ofNat 8 v]

/-- The bytes of the RTC register file in R342's order. -/
def Rtc.toBytes (r : Rtc) : List Byte := [r.s, r.m, r.h, r.dl, r.dh]

/-- The RTC register file from five bytes, each cut to the bits its register has (R342; log 25). -/
def Rtc.ofBytes (b : List Byte) : Rtc where
  s := b.getD 0 0 &&& rtcMask 0
  m := b.getD 1 0 &&& rtcMask 1
  h := b.getD 2 0 &&& rtcMask 2
  dl := b.getD 3 0 &&& rtcMask 3
  dh := b.getD 4 0 &&& rtcMask 4

/-- The RAM bytes of a dump (R361): the banks in order, or MBC2's 512 cells, padded (log 20). -/
def dumpRam (s : State) : List Byte :=
  (List.range (dumpRamSize s.cart)).map fun k =>
    match s.cart.kind with
    | .mbc2 => if k < 512 then s.cram.read k &&& 0x0F else 0x00
    | _ => s.cram.read k

/-- The `rtc[0..4]` a dump holds: an RTC is synced before it is read (R345; log 26), and a cartridge without one has
nothing to sync. -/
def dumpRtc (s : State) : Rtc := if s.cart.hasRtc then (rtcSync s).mapper.rtc else s.mapper.rtc

/-- The battery dump of R361 at the present host time. -/
def exportDump (s : State) : List Byte := dumpRam s ++ (dumpRtc s).toBytes ++ toBigEndian 8 s.host.time

/-- The RAM bytes a dump restores (R363): MBC2's cells keep their low nibble (log 20). -/
def importRam (c : Cartridge) (dump : List Byte) : List Byte :=
  match c.kind with
  | .mbc2 => (dump.take 512).map fun v => v &&& 0x0F
  | _ => dump.take (dumpRamSize c)

/-- A dump loaded into a machine (R363); one of another length than R361's is ignored. -/
def importDump (dump : List Byte) (s : State) : State :=
  if dump.length = dumpRamSize s.cart + 13 then
    { s with
      cram := Memory.ofBytes s.cram.fill (importRam s.cart dump)
      mapper := { s.mapper with
        rtc := Rtc.ofBytes ((dump.drop (dumpRamSize s.cart)).take 5)
        rtcLastSync := ofBigEndian (dump.drop (dumpRamSize s.cart + 5)) } }
  else s

/-! ## Reset -/

/-- `reset(rom_image, GBC_HARDWARE, battery_dump?)` (R1200) of a machine with parameters `p` and `INIT_RAM` `ram`, whose
host's side before the reset is `host`: its inputs survive, and nothing else does (R1211). -/
def load (p : Params) (ram : InitRam) (gbc : Bool) (image : List Byte) (dump : Option (List Byte)) (host : HostSide) :
    Except LoadError State :=
  match loadCartridge image with
  | .error e => .error e
  | .ok cart =>
    let s := { State.atReset p ram gbc (gbc && gbcCapable image) cart
      (Memory.ofBytes 0x00 (image.take (cart.romBanks * 0x4000))) with host := host.afterReset }
    match dump with
    | some d => .ok (if cart.hasBattery then importDump d s else s)
    | none => .ok s

/-! ## The life of a run -/

/-- A call in the wrong state of life: refused, with no change (R1190). -/
inductive LifecycleError where
  /-- `run()` on a running core. -/
  | alreadyRunning
  /-- `run()` after a run has ended. -/
  | runEnded
  /-- `stop()` on a core that is not running. -/
  | notRunning
deriving DecidableEq, Repr

/-- The start of `run()` (R1190). -/
def startRun (s : State) : Except LifecycleError State :=
  if s.running then .error .alreadyRunning
  else if s.runEnded then .error .runEnded
  else .ok { s with running := true }

/-- A run ends (R1190): `run_ended`, and the audio sink's `stop()` is called. -/
def endRun (s : State) : State := { s with runEnded := true }.callSink .stop

/-- The loop of `run()`, at most `n` steps of it: `step` until not running, then the run ends, if `stop()`
has not ended it already (R1190). -/
def runLoop : Nat → State → State
  | 0, s => s
  | n + 1, s =>
    if s.running then
      match step s with
      | .next t => runLoop n t
      | .fault _ => s
      | .refused _ => s
    else if s.runEnded then s
    else endRun s

/-- `stop()` (R1190; conflict C7). -/
def stopRun (s : State) : Except LifecycleError State :=
  if s.running then .ok (endRun { s with running := false }) else .error .notRunning

/-- Teardown of the core: the audio sink's `dispose()` is called (R1190; log 14). -/
def teardown (s : State) : State := s.callSink .dispose

/-! ## Inputs -/

/-- The eight named buttons (R1190). -/
inductive Button where
  | right
  | left
  | up
  | down
  | a
  | b
  | select
  | start
deriving DecidableEq, Repr

/-- Whether a button is pressed. -/
def Buttons.get (g : Buttons) (k : Button) : Bool :=
  match k with
  | .right => g.right
  | .left => g.left
  | .up => g.up
  | .down => g.down
  | .a => g.a
  | .b => g.b
  | .select => g.select
  | .start => g.start

/-- A button set to `v`. -/
def Buttons.set (g : Buttons) (k : Button) (v : Bool) : Buttons :=
  match k with
  | .right => { g with right := v }
  | .left => { g with left := v }
  | .up => { g with up := v }
  | .down => { g with down := v }
  | .a => { g with a := v }
  | .b => { g with b := v }
  | .select => { g with select := v }
  | .start => { g with start := v }

/-- `buttonDown(b)` (R1180): on a released button, pressed and `input_changed`. -/
def buttonDown (k : Button) (s : State) : State :=
  if s.host.buttons.get k then s
  else { s with host := { s.host with buttons := s.host.buttons.set k true, inputChanged := true } }

/-- `buttonUp(b)` (R1180). -/
def buttonUp (k : Button) (s : State) : State :=
  { s with host := { s.host with buttons := s.host.buttons.set k false } }

/-- The wall clock moves on by `d` units (R345: it never goes back). -/
def advanceHostTime (d : Nat) (s : State) : State := { s with host := { s.host with time := s.host.time + d } }

/-- Sound enabled or disabled by the host (R1083). -/
def setSound (on : Bool) (s : State) : State := { s with host := { s.host with soundEnabled := on } }

/-- The audio sink's `availableSampleSlots()` as it now stands, 0 without a sink (R1082). -/
def setSampleSlots (n : Nat) (s : State) : State := { s with host := { s.host with sampleSlots := n } }

end Sys2Proof.Machine
end

