-- ==== Sys2Proof/Safety.lean ====
section
/-! DEFINITION. The terms the statements are written in: the index tables of 30_encoding, what a step leaves readable,
the storage byte an address shows, and the invariants of the state that every step keeps. -/

namespace Sys2Proof

/-! ## The encoding tables of 30_encoding R402 to R404, by number -/

/-- The opcode byte with fields x, y and z (R402). -/
def opcode (x y z : Nat) : Byte := BitVec.ofNat 8 (64 * x + 8 * y + z)

/-- The index of a register in R404's table r. -/
def R8.index : R8 → Nat
  | .b => 0 | .c => 1 | .d => 2 | .e => 3 | .h => 4 | .l => 5 | .a => 7

/-- The index in R404's table rp. -/
def Rp.index : Rp → Nat
  | .bc => 0 | .de => 1 | .hl => 2 | .sp => 3

/-- The index in R404's table rp2. -/
def Rp2.index : Rp2 → Nat
  | .bc => 0 | .de => 1 | .hl => 2 | .af => 3

/-- The index in R404's table cc. -/
def Cond.index : Cond → Nat
  | .nz => 0 | .z => 1 | .nc => 2 | .c => 3

/-- The index in R404's table alu. -/
def AluOp.index : AluOp → Nat
  | .add => 0 | .adc => 1 | .sub => 2 | .sbc => 3 | .and => 4 | .xor => 5 | .or => 6 | .cp => 7

/-- The index in R404's table rot. -/
def RotOp.index : RotOp → Nat
  | .rlc => 0 | .rrc => 1 | .rl => 2 | .rr => 3 | .sla => 4 | .sra => 5 | .swap => 6 | .srl => 7

/-- The field y of an RST (R403). -/
def RstVec.index : RstVec → Nat
  | .t00 => 0 | .t08 => 1 | .t10 => 2 | .t18 => 3 | .t20 => 4 | .t28 => 5 | .t30 => 6 | .t38 => 7

/-- Whether an instruction stands for an undefined opcode. -/
def Instr.isIllegal : Instr → Bool
  | .illegal_d3 => true
  | .illegal_db => true
  | .illegal_dd => true
  | .illegal_e3 => true
  | .illegal_e4 => true
  | .illegal_eb => true
  | .illegal_ec => true
  | .illegal_ed => true
  | .illegal_f4 => true
  | .illegal_fc => true
  | .illegal_fd => true
  | _ => false

/-- The eleven undefined base opcodes as R408 lists them. -/
def undefinedOpcodes : List Byte := [0xD3, 0xDB, 0xDD, 0xE3, 0xE4, 0xEB, 0xEC, 0xED, 0xF4, 0xFC, 0xFD]

/-- The bytes are the encoding of `i`, whatever follows them. -/
def encodes (bytes : List Byte) (i : Instr) : Prop := ∀ rest, decode (bytes ++ rest) = .ok (i, rest)

namespace Machine

/-! ## What a step leaves -/

/-- `s` after an instruction of `len` bytes and `cost` cycles that has no other effect (00_scope R22): PC past it, one
byte less far when the opcode fetch did not increment PC (46_system R802), and the counter moved. -/
def ran (s : State) (len cost : Nat) : State :=
  { s with
    regs := { s.regs with pc := s.regs.pc + BitVec.ofNat 16 (if s.haltRepeat then len - 1 else len) }
    haltRepeat := false
    counter := s.counter + cost }

/-- `s` after an instruction of `len` bytes and `cost` cycles whose only effect is to store `v` at `addr`; the store sees
the counter at the instruction's start (00_scope R21). -/
def stored (s : State) (len cost : Nat) (addr : Word) (v : Byte) : State :=
  (memWrite (ran s len 0) addr v).addCycles cost

/-- Every byte reads in `t` as in `s`, but for DIV and TIMA, which are computed from the counter. -/
def sameReads (s t : State) : Prop := ∀ a : Word, a ≠ 0xFF04 → a ≠ 0xFF05 → memRead t a = memRead s a

/-- The bytes of `l` stand at `addr`, `addr + 1`, … -/
def bytesAt (s : State) (addr : Word) (l : List Byte) : Prop :=
  ∀ k : Nat, ∀ h : k < l.length, memRead s (addr + BitVec.ofNat 16 k) = l[k]

/-- What an instruction that only writes CPU registers leaves: nothing but the registers, the counter and the model's
`haltRepeat` flag differs, and every byte reads as before. -/
def onlyRegs (s t : State) : Prop :=
  t = { s with regs := t.regs, counter := t.counter, haltRepeat := false } ∧ sameReads s t

/-- Every 8-bit register but those of `rs` is unchanged. -/
def keepsRegs (s t : State) (rs : List R8) : Prop := ∀ q, q ∉ rs → t.regs.get8 q = s.regs.get8 q

/-- The interrupt, parking and run state, the speed, the fixed parameters, the ROM and the host's side are unchanged: what no
store touches, wherever it goes and whatever it sets off. -/
def keepsControl (s t : State) : Prop :=
  t.ime = s.ime ∧ t.imeArmed = s.imeArmed ∧ t.halted = s.halted ∧ t.stopped = s.stopped ∧ t.fault = s.fault ∧
  t.running = s.running ∧ t.runEnded = s.runEnded ∧ t.doubleSpeed = s.doubleSpeed ∧ t.cgbMode = s.cgbMode ∧
  t.cart = s.cart ∧ t.rom = s.rom ∧ t.host = s.host ∧ t.params = s.params

/-- The flags an addition `a + b + c` leaves (42_alu8 R600). -/
def addFlags (a b : Byte) (c : Nat) : Flags where
  z := decide (a + b + BitVec.ofNat 8 c = 0)
  n := false
  h := decide ((a &&& 0x0F).toNat + (b &&& 0x0F).toNat + c ≥ 0x10)
  c := decide (a.toNat + b.toNat + c > 0xFF)

/-- The flags a subtraction `a - b - c` leaves (42_alu8 R601). -/
def subFlags (a b : Byte) (c : Nat) : Flags where
  z := decide (a - b - BitVec.ofNat 8 c = 0)
  n := true
  h := decide ((a &&& 0x0F).toNat < (b &&& 0x0F).toNat + c)
  c := decide (a.toNat < b.toNat + c)

/-- `s` after an accumulator instruction that leaves `v` in A and the flags `w`. -/
def leavesA (s : State) (len cost : Nat) (v : Byte) (w : Flags) : State :=
  ((ran s len cost).set8 .a v).setFlags w

/-! ## Storage bytes -/

/-- A byte of plain storage: what aliases are aliases of (20_memory R250). -/
inductive StorageByte where
  | vram (k : Nat)
  | cram (k : Nat)
  | wram (k : Nat)
  | oam (k : Nat)
  | wave (k : Nat)
  | hram (k : Nat)
  | ie
deriving DecidableEq, Repr

/-- The storage byte an address shows; none for ROM, an I/O register, an RTC register or nothing at all. -/
def storageAt (s : State) (addr : Word) : Option StorageByte :=
  match placeOf s addr with
  | .rom _ => none
  | .vram k => some (.vram k)
  | .cartRam off =>
    match cartRamTarget s off with
    | .absent => none
    | .ram k => some (.cram k)
    | .nibble k => some (.cram k)
    | .rtc _ => none
  | .wram k => some (.wram k)
  | .oam k => some (.oam k)
  | .io k => if 0x30 ≤ k ∧ k ≤ 0x3F then some (.wave (k - 0x30)) else none
  | .hram k => some (.hram k)
  | .ie => some .ie

/-- What a read of `addr` gives once `v` has been stored in the storage byte it shows: `v`, but for MBC2's four-bit
cells, whose upper half reads 1 (25_cartridge R330). -/
def shownAt (s : State) (addr : Word) (v : Byte) : Byte :=
  match placeOf s addr with
  | .cartRam off =>
    match cartRamTarget s off with
    | .nibble _ => 0xF0 ||| (v &&& 0x0F)
    | _ => v
  | _ => v

/-! ## Invariants -/

/-- Every byte array is in its canonical form. -/
structure MemoryInv (s : State) : Prop where
  rom : s.rom.wf = true
  cram : s.cram.wf = true
  vram : s.vram.wf = true
  wram : s.wram.wf = true
  oam : s.oam.wf = true
  io : s.io.wf = true
  wave : s.wave.wf = true
  hram : s.hram.wf = true
  bgPal : s.bgPal.wf = true
  objPal : s.objPal.wf = true

/-- F holds only the four flags (10_state R55), a fault has ended the run (60_exceptions R1130), and IME_ARMED is only
ever set while IME is 0 (46_system R805). -/
structure CpuInv (s : State) : Prop where
  flagsOnly : s.regs.f &&& 0x0F = 0
  faultStops : s.fault ≠ none → s.running = false
  armedOrEnabled : ¬(s.ime = true ∧ s.imeArmed = true)

/-- The frame has 144 rows of 160 pixels (R14). -/
def Frame.wf (f : Frame) : Prop := f.length = 144 ∧ ∀ row ∈ f, row.length = 160

/-- The display: exactly one of its two deadlines is set (60_exceptions R1103), LY and the mode agree (50_ppu R901),
both are at rest while the LCD is off (R906), and the frames have their size. -/
structure DisplayInv (s : State) : Prop where
  modeDeadline : s.ppu.modeDeadline.isSome = lcdOn s
  offDeadline : s.ppu.frameDeadlineOff.isSome = !lcdOn s
  lineBound : s.ppu.ly.toNat ≤ 153
  vblankLines : s.ppu.mode = .vblank ↔ 144 ≤ s.ppu.ly.toNat
  offAtRest : lcdOn s = false → s.ppu.ly = 0 ∧ s.ppu.mode = .hblank
  backBuffer : Frame.wf s.ppu.backBuffer
  publishedFrame : ∀ f, s.ppu.publishedFrame = some f → Frame.wf f

/-- The timer's overflow deadline is R1150's while the timer runs, and none while it does not. -/
def TimerInv (s : State) : Prop :=
  s.timer.deadline = timerDeadline (s.ioByte 0x07) s.timer.base s.timer.timaBase

/-- No scheduled event is due (60_exceptions R1102). -/
def NoDeadlineDue (s : State) : Prop := ∀ d k, nextScheduled s = some (d, k) → s.counter < d

/-- One channel: its length is at most `full`, its phase a fraction, it is enabled only with its DAC on (55_apu R1011)
and the APU powered (R1014), and `length_enable` mirrors bit 6 of its NRx4 (R91). -/
structure ChannelInv (ch : Channel) (full : Nat) (dacOn power : Bool) (nrx4 : Byte) : Prop where
  length : ch.length ≤ full
  phaseLow : 0 ≤ ch.phase
  phaseHigh : ch.phase < 1
  dac : ch.enabled = true → dacOn = true
  power : ch.enabled = true → power = true
  mirror : ch.lengthEnable = bit nrx4 6

/-- The ranges of 10_state R91 for an envelope. -/
structure EnvelopeInv (e : Envelope) : Prop where
  volume : e.volume ≤ 15
  timer : e.timer ≤ 7

/-- The APU (10_state R91). -/
structure SoundInv (s : State) : Prop where
  ch1 : ChannelInv s.apu.ch1 64 (envDacOn (s.ioByte 0x12)) (apuOn s) (s.ioByte 0x14)
  ch2 : ChannelInv s.apu.ch2 64 (envDacOn (s.ioByte 0x17)) (apuOn s) (s.ioByte 0x19)
  ch3 : ChannelInv s.apu.ch3 256 (waveDacOn (s.ioByte 0x1A)) (apuOn s) (s.ioByte 0x1E)
  ch4 : ChannelInv s.apu.ch4 64 (envDacOn (s.ioByte 0x21)) (apuOn s) (s.ioByte 0x23)
  env1 : EnvelopeInv s.apu.env1
  env2 : EnvelopeInv s.apu.env2
  env4 : EnvelopeInv s.apu.env4
  shadowFreq : s.apu.shadowFreq ≤ 2047
  sweepTimer : s.apu.sweepTimer ≤ 7

/-- The RTC registers hold only the bits R342 gives them. -/
def Rtc.wf (r : Rtc) : Prop := ∀ j, j ≤ 4 → r.get j &&& rtcMask j = r.get j

/-- The bank registers hold what their controller can write (25_cartridge R327, R331, R340, R352; R322 for zero). -/
def banksInRange (k : CartKind) (m : Mapper) : Prop :=
  match k with
  | .none => m.romBank = 1 ∧ m.ramBank = 0
  | .mbc1 => 1 ≤ m.romBank ∧ m.romBank ≤ 31 ∧ m.ramBank ≤ 3
  | .mbc2 => 1 ≤ m.romBank ∧ m.romBank ≤ 15 ∧ m.ramBank = 0
  | .mbc3 => 1 ≤ m.romBank ∧ m.romBank ≤ 127 ∧ m.ramBank ≤ 255
  | .mbc5 => m.romBank ≤ 511 ∧ m.ramBank ≤ 15

/-- The mapper (10_state R126) and the HDMA registers (10_state R130, 20_memory R241, R242). -/
structure MapperInv (s : State) : Prop where
  banks : banksInRange s.cart.kind s.mapper
  rtc : Rtc.wf s.mapper.rtc
  rtcLatched : Rtc.wf s.mapper.rtcLatched
  hdmaBlocks : s.hdma.remaining ≤ 128
  hdmaActive : s.hdma.active = true → s.hdma.remaining ≠ 0
  hdmaSource : s.hdma.src &&& 0x000F = 0
  hdmaTarget : s.hdma.dst &&& 0x600F = 0

end Machine

end Sys2Proof
end

