-- ==== Sys2Proof/Certificates/Slice0/Obligations.lean ====
section
/-! DEFINITION. The statements for the provers, one `Obligations.<Name>` each, from the numbered rules of spec/.  A
statement over all states holds whatever the OPEN parameters are, since every state carries them. -/

open Sys2Proof Sys2Proof.Machine

/-! ## Encoding -/

/-- Words written out bit by bit from 30_encoding R401, R406 and R407, one of each family, decode to the instructions
they stand for. -/
def Obligations.DecodeOfWordsFromTheOpcodeMaps : Prop :=
  decode [0b01010100] = .ok (.ld_d_h, []) ∧
  decode [0b00110110, 0x5A] = .ok (.ld_atHL_d8 0x5A, []) ∧
  decode [0b11110000, 0x44] = .ok (.ldh_a_atA8 0x44, []) ∧
  decode [0b00001000, 0xDE, 0xC0] = .ok (.ld_atA16_sp 0xC0DE, []) ∧
  decode [0b11010101] = .ok (.push_de, []) ∧
  decode [0b10011101] = .ok (.sbc_a_l, []) ∧
  decode [0b00100111] = .ok (.daa, []) ∧
  decode [0b00111001] = .ok (.add_hl_sp, []) ∧
  decode [0b11001011, 0b00110110] = .ok (.swap_atHL, []) ∧
  decode [0b11001011, 0b01101011] = .ok (.bit_5_e, []) ∧
  decode [0b00110000, 0xFB] = .ok (.jr_nc_e8 0xFB, []) ∧
  decode [0b11011100, 0x34, 0x12] = .ok (.call_c_a16 0x1234, []) ∧
  decode [0b11101111] = .ok (.rst_28h, []) ∧
  decode [0b01110110] = .ok (.halt, []) ∧
  decode [0b00010000, 0x00] = .ok (.stop 0x00, []) ∧
  decode [0b11011101] = .ok (.illegal_dd, [])

/-- Decoding and encoding agree both ways on every well-formed instruction with every operand value, and on every
list of bytes: no bit of an encoding is dropped, and every encoding has exactly one meaning (30_encoding R409). -/
def Obligations.DecodeAndEncodeAgree : Prop :=
  (∀ i : Instr, i.wf = true → ∀ rest, decode (encode i ++ rest) = .ok (i, rest)) ∧
  (∀ bytes i rest, decode bytes = .ok (i, rest) → bytes = encode i ++ rest ∧ i.wf = true)

/-- 30_encoding R400 and R408: the first byte alone decides how many of the bytes the instruction takes, 1 to 3, the
prefix 0xCB always making 2; decoding never fails, and the undefined opcodes are exactly R408's eleven. -/
def Obligations.FirstByteFixesTheLength : Prop :=
  ∀ a : Byte, ∃ n : Nat, 1 ≤ n ∧ n ≤ 3 ∧ (a = 0xCB → n = 2) ∧
    ∀ b c : Byte, ∃ i, decode [a, b, c] = .ok (i, [a, b, c].drop n) ∧
      (i.isIllegal = true ↔ a ∈ undefinedOpcodes)

/-! ## The step -/

/-- 60_exceptions R1101 with 46_system R802's opcode fetch: when the bytes at PC are the encoding of a well-formed
instruction, a step of a core that runs and is not parked executes it, then makes the end-of-instruction IME update,
processes the due events and checks for an interrupt (after IllegalOpcode it does nothing more).  Under `haltRepeat` the
opcode byte does not move PC, so the operand bytes are read from PC again. -/
def Obligations.StepRunsTheDecodedInstruction : Prop :=
  ∀ (s u t : State) (i : Instr) (o : Byte) (operands : List Byte),
    s.fault = none → s.running = true → u = consumeInput s → u.stopped = false → u.halted = false →
    i.wf = true → encode i = o :: operands → memRead u u.regs.pc = o →
    bytesAt u (if u.haltRepeat then u.regs.pc else u.regs.pc + 1) operands →
    exec i u = .next t →
    step s = .next
      (if t.fault.isSome then t else interruptCheck (processEvents (endOfInstruction u.imeArmed t)))

/-- 60_exceptions R1101: a step after a fault or of a core that is not running changes nothing; one parked by STOP only
consumes the host's input; one parked by HALT moves the counter to the next event and processes the due events unless
an interrupt is pending, then checks for an interrupt. -/
def Obligations.ParkedStepsWait : Prop :=
  ∀ s u : State, u = consumeInput s →
    ((s.fault ≠ none ∨ s.running = false) → step s = .next s) ∧
    (s.fault = none → s.running = true → u.stopped = true → step s = .next u) ∧
    (s.fault = none → s.running = true → u.stopped = false → u.halted = true →
      (u.ie &&& u.ioByte 0x0F &&& 0x1F ≠ 0 → step s = .next (interruptCheck u)) ∧
      (u.ie &&& u.ioByte 0x0F &&& 0x1F = 0 → ∀ d k, nextScheduled u = some (d, k) →
        step s = .next (interruptCheck (processEvents { u with counter := max u.counter d }))))

/-- 60_exceptions R1103: a halted core always has a next event, so a step of it that finds no interrupt pending moves
the counter on. -/
def Obligations.HaltedTimeAdvances : Prop :=
  ∀ s t : State, DisplayInv s → NoDeadlineDue s → s.fault = none → s.running = true → s.host.inputChanged = false →
    s.stopped = false → s.halted = true → s.ie &&& s.ioByte 0x0F &&& 0x1F = 0 → step s = .next t →
    (∃ d k, nextScheduled s = some (d, k) ∧ d ≤ t.counter) ∧ s.counter < t.counter

/-- No instruction and no step ends in a fault or a refusal: no memory operation fails (20_memory R212), and the one
synchronous exception is a next state (60_exceptions R1130). -/
def Obligations.EveryStepAnswersNext : Prop :=
  (∀ (i : Instr) (s : State), ∃ t, exec i s = .next t) ∧ (∀ s : State, ∃ t, step s = .next t)

/-! ## Invariants -/

/-- Every step keeps every byte array in its canonical form. -/
def Obligations.StepKeepsMemoryCanonical : Prop :=
  ∀ s t : State, MemoryInv s → step s = .next t → MemoryInv t

/-- Every step keeps F's low nibble 0 (10_state R55), never has IME and IME_ARMED both set (46_system R800, R805), and
leaves a core with a fault not running (60_exceptions R1130). -/
def Obligations.StepKeepsCpuState : Prop :=
  ∀ s t : State, CpuInv s → step s = .next t → CpuInv t

/-- Every step keeps exactly one display deadline set (60_exceptions R1103), LY in 0..153 (10_state R96), mode 1 exactly
on lines 144 and up (50_ppu R901), LY 0 and mode 0 while the LCD is off (50_ppu R906), and the frames 144 by 160. -/
def Obligations.StepKeepsDisplayState : Prop :=
  ∀ s t : State, DisplayInv s → step s = .next t → DisplayInv t

/-- Every step leaves no scheduled event due (60_exceptions R1101, R1102) and the timer's deadline as R1150 gives it,
if that was so before it; where both hold, the TIMA a read computes has not passed 255 (R1150). -/
def Obligations.StepLeavesNoDeadlineDue : Prop :=
  (∀ s t : State, TimerInv s → NoDeadlineDue s → step s = .next t → TimerInv t ∧ NoDeadlineDue t) ∧
  (∀ s : State, TimerInv s → NoDeadlineDue s → timerActive (s.ioByte 0x07) = true →
    s.timer.timaBase.toNat + (s.counter - s.timer.base) / timerPeriod (s.ioByte 0x07) < 256)

/-- Every step keeps the APU's ranges (10_state R91), no channel enabled with its DAC off (55_apu R1011) or the APU off
(R1014), `length_enable` a mirror of bit 6 of NRx4, and every phase in [0, 1) (R1040). -/
def Obligations.StepKeepsSoundState : Prop :=
  ∀ s t : State, SoundInv s → step s = .next t → SoundInv t

/-- Every step keeps the controller's registers within what the controller can write (25_cartridge R327, R331, R340,
R352), the RTC within its write masks (R342), and the HDMA registers aligned and in range (10_state R130). -/
def Obligations.StepKeepsMapperState : Prop :=
  ∀ s t : State, MapperInv s → step s = .next t → MapperInv t

/-- The machine after reset, of any parameters, initial RAM contents, hardware, mode, cartridge and ROM contents, meets
every invariant the steps keep; so does `State.reset`. -/
def Obligations.ResetMeetsEveryInvariant : Prop :=
  (∀ (p : Params) (ram : InitRam) (gbc cgb : Bool) (cart : Cartridge) (rom : Memory) (s : State),
    rom.wf = true → ram.cram.wf = true → ram.vram.wf = true → ram.wram.wf = true → ram.oam.wf = true →
    ram.wave.wf = true → ram.hram.wf = true → ram.objPal.wf = true → s = State.atReset p ram gbc cgb cart rom →
    MemoryInv s ∧ CpuInv s ∧ DisplayInv s ∧ TimerInv s ∧ NoDeadlineDue s ∧ SoundInv s ∧ MapperInv s) ∧
  MemoryInv State.reset ∧ CpuInv State.reset ∧ DisplayInv State.reset ∧ TimerInv State.reset ∧
  NoDeadlineDue State.reset ∧ SoundInv State.reset ∧ MapperInv State.reset

/-- 70_reset R1201 row by row, in both modes: the CPU registers (10_state R53, R54, R57), the scheduler, what every I/O
address reads under `IO_READBACK = HW`, the memory arrays, and the internal state of the cartridge, the timer, HDMA, the
PPU, the APU and the host's inputs.  The white back buffer alone is left out (log 15). -/
def Obligations.ResetValues : Prop :=
  ∀ (p : Params) (ram : InitRam) (gbc cgb : Bool) (cart : Cartridge) (rom : Memory) (s : State),
    s = State.atReset p ram gbc cgb cart rom →
    s.regs.sp = 0xFFFE ∧ s.regs.pc = 0x0100 ∧ s.regs.f = (if cgb then 0x80 else 0xB0) ∧
    s.regs.a = (if cgb then 0x11 else 0x01) ∧ s.regs.b = 0x00 ∧ s.regs.c = (if cgb then 0x00 else 0x13) ∧
    s.regs.d = (if cgb then 0xFF else 0x00) ∧ s.regs.e = (if cgb then 0x56 else 0xD8) ∧
    s.regs.h = (if cgb then 0x00 else 0x01) ∧ s.regs.l = (if cgb then 0x0D else 0x4D) ∧
    s.ime = false ∧ s.imeArmed = false ∧ s.halted = false ∧ s.stopped = false ∧ s.counter = 0 ∧
    s.doubleSpeed = false ∧ s.fault = none ∧ s.running = false ∧ s.runEnded = false ∧
    s.ppu.modeDeadline = some 80 ∧ s.timer.deadline = none ∧ s.serialDeadline = none ∧ s.timer.base = 0 ∧
    s.timer.timaBase = 0 ∧ s.timer.divBase = 0 ∧ timerActive (s.ioByte 0x07) = false ∧
    timerPeriod (s.ioByte 0x07) = 1024 ∧
    (p.ioReadback = .hw →
      ([0xFF00, 0xFF01, 0xFF02, 0xFF04, 0xFF05, 0xFF06, 0xFF07, 0xFF0F].map (memRead s) =
        [0xCF, 0x00, if cgb then 0x7F else 0x7E, 0x00, 0x00, 0x00, 0xF8, 0xE1]) ∧
      ([0xFF10, 0xFF11, 0xFF12, 0xFF13, 0xFF14, 0xFF16, 0xFF17, 0xFF18, 0xFF19].map (memRead s) =
        [0x80, 0xBF, 0xF3, 0xFF, 0xBF, 0x3F, 0x00, 0xFF, 0xBF]) ∧
      ([0xFF1A, 0xFF1B, 0xFF1C, 0xFF1D, 0xFF1E, 0xFF20, 0xFF21, 0xFF22, 0xFF23, 0xFF24, 0xFF25, 0xFF26].map
        (memRead s) = [0x7F, 0xFF, 0x9F, 0xFF, 0xBF, 0xFF, 0x00, 0x00, 0xBF, 0x77, 0xF3, 0xF1]) ∧
      ([0xFF40, 0xFF41, 0xFF42, 0xFF43, 0xFF44, 0xFF45, 0xFF46, 0xFF47, 0xFF48, 0xFF49, 0xFF4A, 0xFF4B].map
        (memRead s) = [0x91, 0x86, 0x00, 0x00, 0x00, 0x00, 0xFF, 0xFC, 0xFF, 0xFF, 0x00, 0x00]) ∧
      (cgb = true → [0xFF4D, 0xFF4F, 0xFF51, 0xFF52, 0xFF53, 0xFF54, 0xFF55, 0xFF56, 0xFF70].map (memRead s) =
        [0x7E, 0xFE, 0xFF, 0xFF, 0xFF, 0xFF, 0xFF, 0x3E, 0xF8]) ∧
      (∀ k, k ≤ 0x7F → ioUnused cgb k = true → memRead s (0xFF00 + BitVec.ofNat 16 k) = 0xFF)) ∧
    s.ioByte 0x00 &&& 0x30 = 0x00 ∧ s.ioByte 0x02 = (if cgb then 0x7F else 0x7E) ∧ s.ioByte 0x07 = 0x00 ∧
    s.ioByte 0x0F = 0x01 ∧ s.ioByte 0x41 &&& 0x78 = 0x00 ∧ s.ie = 0x00 ∧
    (cgb = true → s.ioByte 0x56 = 0x00 ∧ s.ioByte 0x68 = 0x00 ∧ s.ioByte 0x6A = 0x00 ∧ s.ioByte 0x70 = 0x00) ∧
    (∀ k, k < 32 → s.bgPal.read (2 * k) = 0xFF ∧ s.bgPal.read (2 * k + 1) = 0x7F) ∧ s.objPal = ram.objPal ∧
    s.wave = ram.wave ∧ s.hram = ram.hram ∧ s.wram = ram.wram ∧ s.vram = ram.vram ∧ s.oam = ram.oam ∧
    s.cram = ram.cram ∧ s.rom = rom ∧
    s.mapper.romBank = 1 ∧ s.mapper.ramBank = 0 ∧ s.mapper.mbc1Mode = false ∧ s.mapper.ramEnabled = false ∧
    s.mapper.rtcLatchPrev = 0xFF ∧ s.mapper.rtc = ⟨0, 0, 0, 0, 0⟩ ∧ s.mapper.rtcLastSync = 0 ∧
    s.hdma = ⟨false, 0, 0, 0⟩ ∧
    s.ppu.mode = .search ∧ s.ppu.ly = 0 ∧ s.ppu.windowLine = 0 ∧ lcdOn s = true ∧ s.ppu.frameDeadlineOff = none ∧
    s.ppu.publishedFrame = none ∧
    s.apu.ch1.enabled = true ∧ s.apu.ch1.length = 0 ∧ s.apu.ch2.enabled = false ∧ s.apu.ch3.enabled = false ∧
    s.apu.ch4.enabled = false ∧ s.apu.lfsr = 0x7FFF ∧
    s.host.buttons = ⟨false, false, false, false, false, false, false, false⟩ ∧ s.host.inputChanged = false

/-- No step changes the ROM (10_state R125, 20_memory R202), the cartridge, `cgb_mode` (10_state R51), `GBC_HARDWARE`
or the OPEN parameters, none moves the counter back (10_state R59), and none clears a fault (10_state R60). -/
def Obligations.WhatNoStepChanges : Prop :=
  ∀ s t : State, step s = .next t →
    t.rom = s.rom ∧ t.cart = s.cart ∧ t.cgbMode = s.cgbMode ∧ t.gbcHardware = s.gbcHardware ∧
    t.params = s.params ∧ s.counter ≤ t.counter ∧ (s.fault ≠ none → t.fault = s.fault)

/-! ## Loads -/

/-- 40_load8 R501 to R505 and R516 to R519: the loads between the 8-bit registers, an immediate and the byte at HL, each
with its encoding, its whole effect and its cost; then A loaded from and stored at HL with HL moved up or down by one,
mod 2^16, the access using the old HL. -/
def Obligations.EightBitLoads : Prop :=
  (∀ s : State,
     (∀ d r : R8, encodes [opcode 1 d.index r.index] (Instr.ldRR d r) ∧
       exec (Instr.ldRR d r) s = .next ((ran s 1 4).set8 d (s.regs.get8 r))) ∧
     (∀ (d : R8) (n : Byte), encodes [opcode 0 d.index 6, n] (Instr.ldRd8 d n) ∧
       exec (Instr.ldRd8 d n) s = .next ((ran s 2 8).set8 d n)) ∧
     (∀ d : R8, encodes [opcode 1 d.index 6] (Instr.ldRatHL d) ∧
       exec (Instr.ldRatHL d) s = .next ((ran s 1 8).set8 d (memRead s s.regs.hl))) ∧
     (∀ r : R8, encodes [opcode 1 6 r.index] (Instr.ldAtHLR r) ∧
       exec (Instr.ldAtHLR r) s = .next (stored s 1 8 s.regs.hl (s.regs.get8 r))) ∧
     (∀ n : Byte, encodes [0x36, n] (.ld_atHL_d8 n) ∧
       exec (.ld_atHL_d8 n) s = .next (stored s 2 12 s.regs.hl n))) ∧
  (∀ s : State,
     (encodes [0x2A] .ld_a_atHLi ∧ exec .ld_a_atHLi s = .next ((ran s 1 8).setRegs
       ({ (ran s 1 8).regs with a := memRead s s.regs.hl }.setHl (s.regs.hl + 1)))) ∧
     (encodes [0x3A] .ld_a_atHLd ∧ exec .ld_a_atHLd s = .next ((ran s 1 8).setRegs
       ({ (ran s 1 8).regs with a := memRead s s.regs.hl }.setHl (s.regs.hl - 1)))) ∧
     (encodes [0x22] .ld_atHLi_a ∧ exec .ld_atHLi_a s = .next ((stored s 1 8 s.regs.hl s.regs.a).setRegs
       ((ran s 1 8).regs.setHl (s.regs.hl + 1)))) ∧
     (encodes [0x32] .ld_atHLd_a ∧ exec .ld_atHLd_a s = .next ((stored s 1 8 s.regs.hl s.regs.a).setRegs
       ((ran s 1 8).regs.setHl (s.regs.hl - 1)))))

/-- 40_load8 R506 to R515: A loaded from and stored to the address in BC, in DE, given whole, or in the high page by an
immediate byte or by C. -/
def Obligations.LoadsAndStoresOfA : Prop :=
  ∀ (s : State) (n : Byte) (nn : Word),
    (encodes [0x0A] .ld_a_atBC ∧ exec .ld_a_atBC s = .next ((ran s 1 8).set8 .a (memRead s s.regs.bc))) ∧
    (encodes [0x1A] .ld_a_atDE ∧ exec .ld_a_atDE s = .next ((ran s 1 8).set8 .a (memRead s s.regs.de))) ∧
    (encodes [0x02] .ld_atBC_a ∧ exec .ld_atBC_a s = .next (stored s 1 8 s.regs.bc s.regs.a)) ∧
    (encodes [0x12] .ld_atDE_a ∧ exec .ld_atDE_a s = .next (stored s 1 8 s.regs.de s.regs.a)) ∧
    (encodes [0xFA, lowByte nn, highByte nn] (.ld_a_atA16 nn) ∧
      exec (.ld_a_atA16 nn) s = .next ((ran s 3 16).set8 .a (memRead s nn))) ∧
    (encodes [0xEA, lowByte nn, highByte nn] (.ld_atA16_a nn) ∧
      exec (.ld_atA16_a nn) s = .next (stored s 3 16 nn s.regs.a)) ∧
    (encodes [0xF0, n] (.ldh_a_atA8 n) ∧
      exec (.ldh_a_atA8 n) s = .next ((ran s 2 12).set8 .a (memRead s (0xFF00 + n.setWidth 16)))) ∧
    (encodes [0xE0, n] (.ldh_atA8_a n) ∧
      exec (.ldh_atA8_a n) s = .next (stored s 2 12 (0xFF00 + n.setWidth 16) s.regs.a)) ∧
    (encodes [0xF2] .ldh_a_atC ∧
      exec .ldh_a_atC s = .next ((ran s 1 8).set8 .a (memRead s (0xFF00 + s.regs.c.setWidth 16)))) ∧
    (encodes [0xE2] .ldh_atC_a ∧
      exec .ldh_atC_a s = .next (stored s 1 8 (0xFF00 + s.regs.c.setWidth 16) s.regs.a))

/-- 41_load16 R551 to R554: a pair or SP loaded with an immediate word, SP stored low byte first, SP loaded from HL, and
HL loaded with SP plus a signed displacement, whose H and C are the unsigned carries of the low-byte sum. -/
def Obligations.SixteenBitLoads : Prop :=
  ∀ s : State,
    (∀ (r : Rp) (nn : Word), encodes [opcode 0 (2 * r.index) 1, lowByte nn, highByte nn] (Instr.ldRpD16 r nn) ∧
      exec (Instr.ldRpD16 r nn) s = .next ((ran s 3 12).setRegs ((ran s 3 12).regs.setRp r nn))) ∧
    (∀ nn : Word, encodes [0x08, lowByte nn, highByte nn] (.ld_atA16_sp nn) ∧
      exec (.ld_atA16_sp nn) s = .next
        ((memWrite (memWrite (ran s 3 0) nn (lowByte s.regs.sp)) (nn + 1) (highByte s.regs.sp)).addCycles 20)) ∧
    (encodes [0xF9] .ld_sp_hl ∧ exec .ld_sp_hl s = .next ((ran s 1 8).setSp s.regs.hl)) ∧
    (∀ e : Byte, encodes [0xF8, e] (.ld_hl_sp_e8 e) ∧
      exec (.ld_hl_sp_e8 e) s = .next (((ran s 2 12).setRegs
        ((ran s 2 12).regs.setHl (s.regs.sp + e.signExtend 16))).setFlags
          ⟨false, false, decide ((s.regs.sp &&& 0x000F).toNat + (e &&& 0x0F).toNat > 0x0F),
            decide ((s.regs.sp &&& 0x00FF).toNat + e.toNat > 0xFF)⟩))

/-- 41_load16 R555 to R557: PUSH writes the high byte at SP - 1 and then the low byte at SP - 2; POP reads the low byte at
SP and the high byte at SP + 1; POP AF drops the low nibble of F.  That at SP = 0x0001 too PUSH's first write is the one at
SP - 1 is the model's choice: R555's pseudocode has it so, its corner case not (log 31). -/
def Obligations.PushAndPop : Prop :=
  ∀ (s : State) (r : Rp2),
    (encodes [opcode 3 (2 * r.index) 5] (Instr.push r) ∧
      ∃ w : State, w = memWrite ((ran s 1 0).setSp (s.regs.sp - 1)) (s.regs.sp - 1) (highByte (s.regs.getRp2 r)) ∧
        exec (Instr.push r) s = .next
          ((memWrite (w.setSp (s.regs.sp - 2)) (s.regs.sp - 2) (lowByte (s.regs.getRp2 r))).addCycles 16)) ∧
    (encodes [opcode 3 (2 * r.index) 1] (Instr.pop r) ∧
      ∃ v : Word, v = joinWord (memRead s (s.regs.sp + 1)) (memRead s s.regs.sp) ∧
        exec (Instr.pop r) s = .next (((ran s 1 12).setSp (s.regs.sp + 2)).setRegs
          (match r with
            | .bc => { (ran s 1 12).regs with sp := s.regs.sp + 2, b := highByte v, c := lowByte v }
            | .de => { (ran s 1 12).regs with sp := s.regs.sp + 2, d := highByte v, e := lowByte v }
            | .hl => { (ran s 1 12).regs with sp := s.regs.sp + 2, h := highByte v, l := lowByte v }
            | .af => { (ran s 1 12).regs with sp := s.regs.sp + 2, a := highByte v, f := lowByte v &&& 0xF0 })))

/-! ## Arithmetic -/

/-- 42_alu8 R610 to R621: ADD, ADC, SUB and SBC of a register, the byte at HL and an immediate, with the flags of
`addFlags` and `subFlags` (R600, R601). -/
def Obligations.AddAndSubtract : Prop :=
  (∀ (s : State) (a : Byte) (c : Nat), a = s.regs.a → c = (if bit s.regs.f 4 then 1 else 0) →
     (∀ r : R8, encodes [opcode 2 0 r.index] (Instr.aluR .add r) ∧
       exec (Instr.aluR .add r) s = .next (leavesA s 1 4 (a + s.regs.get8 r) (addFlags a (s.regs.get8 r) 0))) ∧
     (encodes [0x86] (Instr.aluAtHL .add) ∧ exec (Instr.aluAtHL .add) s = .next
       (leavesA s 1 8 (a + memRead s s.regs.hl) (addFlags a (memRead s s.regs.hl) 0))) ∧
     (∀ n : Byte, encodes [0xC6, n] (Instr.aluD8 .add n) ∧
       exec (Instr.aluD8 .add n) s = .next (leavesA s 2 8 (a + n) (addFlags a n 0))) ∧
     (∀ r : R8, encodes [opcode 2 1 r.index] (Instr.aluR .adc r) ∧ exec (Instr.aluR .adc r) s = .next
       (leavesA s 1 4 (a + s.regs.get8 r + BitVec.ofNat 8 c) (addFlags a (s.regs.get8 r) c))) ∧
     (encodes [0x8E] (Instr.aluAtHL .adc) ∧ exec (Instr.aluAtHL .adc) s = .next
       (leavesA s 1 8 (a + memRead s s.regs.hl + BitVec.ofNat 8 c) (addFlags a (memRead s s.regs.hl) c))) ∧
     (∀ n : Byte, encodes [0xCE, n] (Instr.aluD8 .adc n) ∧
       exec (Instr.aluD8 .adc n) s = .next (leavesA s 2 8 (a + n + BitVec.ofNat 8 c) (addFlags a n c)))) ∧
  (∀ (s : State) (a : Byte) (c : Nat), a = s.regs.a → c = (if bit s.regs.f 4 then 1 else 0) →
     (∀ r : R8, encodes [opcode 2 2 r.index] (Instr.aluR .sub r) ∧
       exec (Instr.aluR .sub r) s = .next (leavesA s 1 4 (a - s.regs.get8 r) (subFlags a (s.regs.get8 r) 0))) ∧
     (encodes [0x96] (Instr.aluAtHL .sub) ∧ exec (Instr.aluAtHL .sub) s = .next
       (leavesA s 1 8 (a - memRead s s.regs.hl) (subFlags a (memRead s s.regs.hl) 0))) ∧
     (∀ n : Byte, encodes [0xD6, n] (Instr.aluD8 .sub n) ∧
       exec (Instr.aluD8 .sub n) s = .next (leavesA s 2 8 (a - n) (subFlags a n 0))) ∧
     (∀ r : R8, encodes [opcode 2 3 r.index] (Instr.aluR .sbc r) ∧ exec (Instr.aluR .sbc r) s = .next
       (leavesA s 1 4 (a - s.regs.get8 r - BitVec.ofNat 8 c) (subFlags a (s.regs.get8 r) c))) ∧
     (encodes [0x9E] (Instr.aluAtHL .sbc) ∧ exec (Instr.aluAtHL .sbc) s = .next
       (leavesA s 1 8 (a - memRead s s.regs.hl - BitVec.ofNat 8 c) (subFlags a (memRead s s.regs.hl) c))) ∧
     (∀ n : Byte, encodes [0xDE, n] (Instr.aluD8 .sbc n) ∧
       exec (Instr.aluD8 .sbc n) s = .next (leavesA s 2 8 (a - n - BitVec.ofNat 8 c) (subFlags a n c))))

/-- 42_alu8 R622 to R633: AND, XOR, OR and CP of a register, the byte at HL and an immediate; AND sets H, XOR and OR
clear it, CP sets the flags of a subtraction and leaves A. -/
def Obligations.LogicAndCompare : Prop :=
  ∀ (s : State) (a : Byte), a = s.regs.a →
    ∀ (op : AluOp) (f : Byte → Byte) (w : Byte → Flags),
      (op = .and ∧ f = (fun v => a &&& v) ∧ w = (fun v => ⟨decide (a &&& v = 0), false, true, false⟩) ∨
       op = .xor ∧ f = (fun v => a ^^^ v) ∧ w = (fun v => ⟨decide (a ^^^ v = 0), false, false, false⟩) ∨
       op = .or ∧ f = (fun v => a ||| v) ∧ w = (fun v => ⟨decide (a ||| v = 0), false, false, false⟩) ∨
       op = .cp ∧ f = (fun _ => a) ∧ w = (fun v => subFlags a v 0)) →
      (∀ r : R8, encodes [opcode 2 op.index r.index] (Instr.aluR op r) ∧
        exec (Instr.aluR op r) s = .next (leavesA s 1 4 (f (s.regs.get8 r)) (w (s.regs.get8 r)))) ∧
      (encodes [opcode 2 op.index 6] (Instr.aluAtHL op) ∧
        exec (Instr.aluAtHL op) s = .next (leavesA s 1 8 (f (memRead s s.regs.hl)) (w (memRead s s.regs.hl)))) ∧
      (∀ n : Byte, encodes [opcode 3 op.index 6, n] (Instr.aluD8 op n) ∧
        exec (Instr.aluD8 op n) s = .next (leavesA s 2 8 (f n) (w n)))

/-- 42_alu8 R634 to R637: INC and DEC of a register and of the byte at HL; C is unchanged, and the (HL) forms read once
and write once. -/
def Obligations.IncAndDecBytes : Prop :=
  ∀ s : State,
    (∀ (r : R8) (v : Byte), v = s.regs.get8 r →
      (encodes [opcode 0 r.index 4] (Instr.incR r) ∧ exec (Instr.incR r) s = .next
        (((ran s 1 4).set8 r (v + 1)).setFlags
          ⟨decide (v + 1 = 0), false, decide (v &&& 0x0F = 0x0F), bit s.regs.f 4⟩)) ∧
      (encodes [opcode 0 r.index 5] (Instr.decR r) ∧ exec (Instr.decR r) s = .next
        (((ran s 1 4).set8 r (v - 1)).setFlags
          ⟨decide (v - 1 = 0), true, decide (v &&& 0x0F = 0x00), bit s.regs.f 4⟩))) ∧
    (∀ v : Byte, v = memRead s s.regs.hl →
      (encodes [0x34] .inc_atHL ∧ exec .inc_atHL s = .next ((stored s 1 12 s.regs.hl (v + 1)).setFlags
        ⟨decide (v + 1 = 0), false, decide (v &&& 0x0F = 0x0F), bit s.regs.f 4⟩)) ∧
      (encodes [0x35] .dec_atHL ∧ exec .dec_atHL s = .next ((stored s 1 12 s.regs.hl (v - 1)).setFlags
        ⟨decide (v - 1 = 0), true, decide (v &&& 0x0F = 0x00), bit s.regs.f 4⟩)))

/-- 42_alu8 R638 to R641: DAA, CPL, SCF and CCF. -/
def Obligations.AccumulatorAdjustments : Prop :=
  ∀ (s : State) (a : Byte) (z n h c : Bool), a = s.regs.a → z = bit s.regs.f 7 → n = bit s.regs.f 6 →
    h = bit s.regs.f 5 → c = bit s.regs.f 4 →
    (encodes [0x27] .daa ∧ ∃ high low : Bool,
      (n = false → high = (c || decide (a.toNat > 0x99)) ∧ low = (h || decide ((a &&& 0x0F).toNat > 0x09)) ∧
        exec .daa s = .next (leavesA s 1 4 (a + (if high then 0x60 else 0) + (if low then 0x06 else 0))
          ⟨decide (a + (if high then 0x60 else 0) + (if low then 0x06 else 0) = 0), n, false, high⟩)) ∧
      (n = true → high = c ∧ low = h ∧
        exec .daa s = .next (leavesA s 1 4 (a - (if high then 0x60 else 0) - (if low then 0x06 else 0))
          ⟨decide (a - (if high then 0x60 else 0) - (if low then 0x06 else 0) = 0), n, false, c⟩))) ∧
    (encodes [0x2F] .cpl ∧ exec .cpl s = .next (leavesA s 1 4 (~~~a) ⟨z, true, true, c⟩)) ∧
    (encodes [0x37] .scf ∧ exec .scf s = .next ((ran s 1 4).setFlags ⟨z, false, false, true⟩)) ∧
    (encodes [0x3F] .ccf ∧ exec .ccf s = .next ((ran s 1 4).setFlags ⟨z, false, false, !c⟩))

/-- DAA makes the binary sum or difference of two BCD bytes the BCD byte of the decimal one, with the decimal carry or
borrow in C: 42_alu8 R638 after R600's addition and R601's subtraction. -/
def Obligations.DaaGivesDecimalResults : Prop :=
  ∀ x y : Nat, x < 100 → y < 100 → ∀ (bcd : Nat → Byte), bcd = (fun n => BitVec.ofNat 8 (n / 10 * 16 + n % 10)) →
    ((daa8 (add8 (bcd x) (bcd y) 0).2 (add8 (bcd x) (bcd y) 0).1).1 = bcd ((x + y) % 100) ∧
      ((daa8 (add8 (bcd x) (bcd y) 0).2 (add8 (bcd x) (bcd y) 0).1).2.c = decide (x + y ≥ 100))) ∧
    ((daa8 (sub8 (bcd x) (bcd y) 0).2 (sub8 (bcd x) (bcd y) 0).1).1 = bcd ((x + 100 - y) % 100) ∧
      ((daa8 (sub8 (bcd x) (bcd y) 0).2 (sub8 (bcd x) (bcd y) 0).1).2.c = decide (x < y)))

/-- 43_alu16 R651 to R654 under R650's three values: INC and DEC of a pair change no flag, ADD HL,rr leaves Z, ADD SP,e8
clears Z and takes H and C from the low-byte sum. -/
def Obligations.SixteenBitArithmetic : Prop :=
  ∀ s : State,
    (∀ r : Rp,
      (encodes [opcode 0 (2 * r.index) 3] (Instr.incRp r) ∧ exec (Instr.incRp r) s = .next
        ((ran s 1 8).setRegs ((ran s 1 8).regs.setRp r (s.regs.getRp r + 1)))) ∧
      (encodes [opcode 0 (2 * r.index + 1) 3] (Instr.decRp r) ∧ exec (Instr.decRp r) s = .next
        ((ran s 1 8).setRegs ((ran s 1 8).regs.setRp r (s.regs.getRp r - 1)))) ∧
      (encodes [opcode 0 (2 * r.index + 1) 1] (Instr.addHLRp r) ∧ ∃ half : Bool,
        (s.params.add16HalfCarry = .hwBit11 →
          half = decide ((s.regs.hl &&& 0x0FFF).toNat + (s.regs.getRp r &&& 0x0FFF).toNat > 0x0FFF)) ∧
        (s.params.add16HalfCarry = .omitted → half = bit s.regs.f 5) ∧
        (s.params.add16HalfCarry = .lowByte →
          half = decide ((s.regs.hl &&& 0x000F).toNat + (s.regs.getRp r &&& 0x000F).toNat > 0x000F)) ∧
        exec (Instr.addHLRp r) s = .next
          (((ran s 1 8).setRegs ((ran s 1 8).regs.setHl (s.regs.hl + s.regs.getRp r))).setFlags
            ⟨bit s.regs.f 7, false, half, decide (s.regs.hl.toNat + (s.regs.getRp r).toNat > 0xFFFF)⟩))) ∧
    (∀ e : Byte, encodes [0xE8, e] (.add_sp_e8 e) ∧ exec (.add_sp_e8 e) s = .next
      (((ran s 2 16).setSp (s.regs.sp + e.signExtend 16)).setFlags
        ⟨false, false, decide ((s.regs.sp &&& 0x000F).toNat + (e &&& 0x0F).toNat > 0x0F),
          decide ((s.regs.sp &&& 0x00FF).toNat + e.toNat > 0xFF)⟩))

/-! ## Rotates, shifts and bits -/

/-- 44_rotate R700 to R704: the rotate and shift functions, bit by bit, and RLCA, RRCA, RLA and RRA, which always clear
Z. -/
def Obligations.RotateFunctionsAndAccumulatorRotates : Prop :=
  (∀ (v : Byte) (c : Bool),
    rotate .rlc v c = (v.rotateLeft 1, bit v 7) ∧
    rotate .rrc v c = (v.rotateRight 1, bit v 0) ∧
    rotate .rl v c = (BitVec.ofNat 8 (2 * v.toNat + (if c then 1 else 0)), bit v 7) ∧
    rotate .rr v c = (BitVec.ofNat 8 (v.toNat / 2 + (if c then 0x80 else 0)), bit v 0) ∧
    rotate .sla v c = (BitVec.ofNat 8 (2 * v.toNat), bit v 7) ∧
    rotate .sra v c = (v.sshiftRight 1, bit v 0) ∧
    rotate .swap v c = (v.rotateLeft 4, false) ∧
    rotate .srl v c = (BitVec.ofNat 8 (v.toNat / 2), bit v 0)) ∧
  (∀ (s : State) (op : RotOp) (i : Instr) (o : Byte),
    (op = .rlc ∧ i = .rlca ∧ o = 0x07 ∨ op = .rrc ∧ i = .rrca ∧ o = 0x0F ∨
     op = .rl ∧ i = .rla ∧ o = 0x17 ∨ op = .rr ∧ i = .rra ∧ o = 0x1F) →
    encodes [o] i ∧ exec i s = .next (leavesA s 1 4 (rotate op s.regs.a (bit s.regs.f 4)).1
      ⟨false, false, false, (rotate op s.regs.a (bit s.regs.f 4)).2⟩))

/-- 44_rotate R706 to R721: the eight CB rotates and shifts of a register and of the byte at HL. -/
def Obligations.CbRotatesAndShifts : Prop :=
  ∀ (s : State) (op : RotOp),
    (∀ (r : R8) (res : Byte) (out : Bool), (res, out) = rotate op (s.regs.get8 r) (bit s.regs.f 4) →
      encodes [0xCB, opcode 0 op.index r.index] (Instr.rotR op r) ∧
      exec (Instr.rotR op r) s = .next
        (((ran s 2 8).set8 r res).setFlags ⟨decide (res = 0), false, false, out⟩)) ∧
    (∀ (res : Byte) (out : Bool), (res, out) = rotate op (memRead s s.regs.hl) (bit s.regs.f 4) →
      encodes [0xCB, opcode 0 op.index 6] (Instr.rotAtHL op) ∧
      exec (Instr.rotAtHL op) s = .next
        ((stored s 2 16 s.regs.hl res).setFlags ⟨decide (res = 0), false, false, out⟩))

/-- 44_rotate R722 to R727: BIT, RES and SET of every bit of a register and of the byte at HL. -/
def Obligations.BitTestsResetsAndSets : Prop :=
  ∀ (s : State) (b : BitIx),
    (∀ r : R8,
      (encodes [0xCB, opcode 1 b.toNat r.index] (Instr.bitR b r) ∧ exec (Instr.bitR b r) s = .next
        ((ran s 2 8).setFlags ⟨!bit (s.regs.get8 r) b.toNat, false, true, bit s.regs.f 4⟩)) ∧
      (encodes [0xCB, opcode 2 b.toNat r.index] (Instr.resR b r) ∧ exec (Instr.resR b r) s = .next
        ((ran s 2 8).set8 r (s.regs.get8 r &&& ~~~((1 : Byte) <<< b.toNat)))) ∧
      (encodes [0xCB, opcode 3 b.toNat r.index] (Instr.setR b r) ∧ exec (Instr.setR b r) s = .next
        ((ran s 2 8).set8 r (s.regs.get8 r ||| ((1 : Byte) <<< b.toNat))))) ∧
    (encodes [0xCB, opcode 1 b.toNat 6] (Instr.bitAtHL b) ∧ exec (Instr.bitAtHL b) s = .next
      ((ran s 2 12).setFlags ⟨!bit (memRead s s.regs.hl) b.toNat, false, true, bit s.regs.f 4⟩)) ∧
    (encodes [0xCB, opcode 2 b.toNat 6] (Instr.resAtHL b) ∧ exec (Instr.resAtHL b) s = .next
      (stored s 2 16 s.regs.hl (memRead s s.regs.hl &&& ~~~((1 : Byte) <<< b.toNat)))) ∧
    (encodes [0xCB, opcode 3 b.toNat 6] (Instr.setAtHL b) ∧ exec (Instr.setAtHL b) s = .next
      (stored s 2 16 s.regs.hl (memRead s s.regs.hl ||| ((1 : Byte) <<< b.toNat))))

/-- 44_rotate R705 with 30_encoding R405 and R410: 0xCB and a second byte decode to the CB table's instruction, and the
prefix row with that byte has exactly that instruction's effect. -/
def Obligations.PrefixCbRunsTheCbTable : Prop :=
  ∀ (c : Byte) (s : State), ∃ i t, Decode.cbTable[c.toNat]? = some i ∧ encodes [0xCB, c] i ∧
    exec i s = .next t ∧ exec (.prefix_cb c) s = .next t

/-! ## Control transfer and system instructions -/

/-- 45_control R750 to R755: the conditions, and JP, JP HL and JR with and without one; a relative target counts from the
address after the instruction. -/
def Obligations.JumpsAndConditions : Prop :=
  (∀ w : Flags, condHolds w .nz = !w.z ∧ condHolds w .z = w.z ∧ condHolds w .nc = !w.c ∧ condHolds w .c = w.c) ∧
  (∀ (s : State) (nn : Word) (e : Byte) (cc : Cond),
    (encodes [0xC3, lowByte nn, highByte nn] (.jp_a16 nn) ∧ exec (.jp_a16 nn) s = .next ((ran s 3 16).setPc nn)) ∧
    (encodes [opcode 3 cc.index 2, lowByte nn, highByte nn] (Instr.jpCC cc nn) ∧
      exec (Instr.jpCC cc nn) s =
        .next (if condHolds (flagsOf s.regs.f) cc then (ran s 3 16).setPc nn else ran s 3 12)) ∧
    (encodes [0xE9] .jp_hl ∧ exec .jp_hl s = .next ((ran s 1 4).setPc s.regs.hl)) ∧
    (encodes [0x18, e] (.jr_e8 e) ∧
      exec (.jr_e8 e) s = .next ((ran s 2 12).setPc ((ran s 2 12).regs.pc + e.signExtend 16))) ∧
    (encodes [opcode 0 (cc.index + 4) 0, e] (Instr.jrCC cc e) ∧
      exec (Instr.jrCC cc e) s = .next (if condHolds (flagsOf s.regs.f) cc
        then (ran s 2 12).setPc ((ran s 2 12).regs.pc + e.signExtend 16) else ran s 2 8)))

/-- 45_control R756 to R761: CALL and RST push the address after the instruction, high byte first at SP - 1 (R555); RET
and RETI pop PC; RETI sets IME at once and clears IME_ARMED.  That the push keeps this order at SP = 0x0001 too, against
R555's corner case, is the model's choice (log 31). -/
def Obligations.CallsAndReturns : Prop :=
  (∀ (u : State) (v : Word), push16 u v =
    memWrite ((memWrite (u.setSp (u.regs.sp - 1)) (u.regs.sp - 1) (highByte v)).setSp (u.regs.sp - 2))
      (u.regs.sp - 2) (lowByte v)) ∧
  ∀ (s : State) (nn : Word) (cc : Cond) (v : RstVec),
    (encodes [0xCD, lowByte nn, highByte nn] (.call_a16 nn) ∧
      exec (.call_a16 nn) s = .next (((push16 (ran s 3 0) (ran s 3 0).regs.pc).setPc nn).addCycles 24)) ∧
    (encodes [opcode 3 cc.index 4, lowByte nn, highByte nn] (Instr.callCC cc nn) ∧
      exec (Instr.callCC cc nn) s = .next (if condHolds (flagsOf s.regs.f) cc
        then ((push16 (ran s 3 0) (ran s 3 0).regs.pc).setPc nn).addCycles 24 else ran s 3 12)) ∧
    (encodes [opcode 3 v.index 7] (Instr.rst v) ∧ exec (Instr.rst v) s = .next
      (((push16 (ran s 1 0) (ran s 1 0).regs.pc).setPc (BitVec.ofNat 16 (8 * v.index))).addCycles 16)) ∧
    ∃ ret : Nat → State, (∀ cost, ret cost = (ran s 1 cost).setRegs { s.regs with
        sp := s.regs.sp + 2, pc := joinWord (memRead s (s.regs.sp + 1)) (memRead s s.regs.sp) }) ∧
      (encodes [0xC9] .ret ∧ exec .ret s = .next (ret 16)) ∧
      (encodes [opcode 3 cc.index 0] (Instr.retCC cc) ∧ exec (Instr.retCC cc) s =
        .next (if condHolds (flagsOf s.regs.f) cc then ret 20 else ran s 1 8)) ∧
      (encodes [0xD9] .reti ∧ exec .reti s = .next { ret 16 with ime := true, imeArmed := false })

/-- 46_system R801 to R805: NOP, HALT under both values of `HALT_BUG`, STOP with and without a prepared speed switch, DI
and EI.  That HALT under `REPEAT_BYTE` is held as the flag `haltRepeat` is the model's choice (log 16). -/
def Obligations.SystemInstructions : Prop :=
  ∀ (s : State) (n : Byte) (pending : Byte), pending = s.ie &&& s.ioByte 0x0F &&& 0x1F →
    (encodes [0x00] .nop ∧ exec .nop s = .next (ran s 1 4)) ∧
    (encodes [0x76] .halt ∧ exec .halt s = .next
      (if pending = 0 then { ran s 1 4 with halted := true }
       else if s.ime = false ∧ s.params.haltBug = .repeatByte then { ran s 1 4 with haltRepeat := true }
       else ran s 1 4)) ∧
    (encodes [0x10, n] (.stop n) ∧ exec (.stop n) s = .next
      (if s.cgbMode = true ∧ bit (s.ioByte 0x4D) 0 = true then
        { ran s 2 4 with
          doubleSpeed := !s.doubleSpeed
          io := s.io.write 0x4D (s.ioByte 0x4D &&& 0xFE)
          timer := { s.timer with divBase := s.counter } }
       else { ran s 2 4 with stopped := true })) ∧
    (encodes [0xF3] .di ∧ exec .di s = .next { ran s 1 4 with ime := false, imeArmed := false }) ∧
    (encodes [0xFB] .ei ∧ exec .ei s = .next { ran s 1 4 with imeArmed := s.imeArmed || !s.ime })

/-- 46_system R806 and 60_exceptions R1130: an undefined opcode records IllegalOpcode with the opcode and its address and
ends the run; PC, the counter and everything else stay. -/
def Obligations.UndefinedOpcodesAreFatal : Prop :=
  ∀ (s : State) (op : IllegalOp), encodes [op.byte] (Instr.illegal op) ∧ op.byte ∈ undefinedOpcodes ∧
    exec (Instr.illegal op) s = .next { s with fault := some ⟨op.byte, s.regs.pc⟩, running := false }

/-! ## Frames -/

/-- What the forms that write one 8-bit register and no flag leave alone: the 8-bit loads, and RES and SET of a register.
Every other register, F, SP, every byte of memory and every other part of the state is unchanged. -/
def Obligations.RegisterLoadFrame : Prop :=
  ∀ (s t : State) (i : Instr) (d r : R8) (n : Byte) (nn : Word) (b : BitIx),
    (i = Instr.ldRR d r ∨ i = Instr.ldRd8 d n ∨ i = Instr.ldRatHL d ∨ i = Instr.resR b d ∨ i = Instr.setR b d ∨
      d = .a ∧ (i = .ld_a_atBC ∨ i = .ld_a_atDE ∨ i = .ld_a_atA16 nn ∨ i = .ldh_a_atA8 n ∨ i = .ldh_a_atC)) →
    exec i s = .next t →
    keepsRegs s t [d] ∧ t.regs.f = s.regs.f ∧ t.regs.sp = s.regs.sp ∧ onlyRegs s t

/-- What the arithmetic forms on registers leave alone: all but A (or the register INC, DEC, a rotate or a shift is of)
and F; BIT and CP write no register but F, SCF and CCF likewise; C survives INC, DEC and BIT, Z and C survive CPL. -/
def Obligations.ArithmeticFrame : Prop :=
  ∀ (s t : State) (i : Instr) (ds : List R8) (op : AluOp) (ro : RotOp) (r : R8) (b : BitIx) (n : Byte),
    (ds = [.a] ∧ (i = Instr.aluR op r ∨ i = Instr.aluAtHL op ∨ i = Instr.aluD8 op n ∨ i = .daa ∨ i = .cpl ∨
        i = .rlca ∨ i = .rrca ∨ i = .rla ∨ i = .rra) ∨
      ds = [r] ∧ (i = Instr.incR r ∨ i = Instr.decR r ∨ i = Instr.rotR ro r) ∨
      ds = [] ∧ (i = Instr.bitR b r ∨ i = Instr.bitAtHL b ∨ i = Instr.aluR .cp r ∨ i = Instr.aluAtHL .cp ∨
        i = Instr.aluD8 .cp n ∨ i = .scf ∨ i = .ccf)) →
    exec i s = .next t →
    keepsRegs s t ds ∧ t.regs.sp = s.regs.sp ∧ onlyRegs s t ∧ t.regs.f &&& 0x0F = 0 ∧
    ((i = Instr.incR r ∨ i = Instr.decR r ∨ i = Instr.bitR b r ∨ i = Instr.bitAtHL b ∨ i = .cpl) →
      bit t.regs.f 4 = bit s.regs.f 4) ∧
    ((i = .cpl ∨ i = .scf ∨ i = .ccf) → bit t.regs.f 7 = bit s.regs.f 7) ∧
    (i = .daa → bit t.regs.f 6 = bit s.regs.f 6)

/-- What the 16-bit forms and the control transfers that store nothing leave alone.  INC, DEC and LD of a pair write its
registers and no flag; ADD HL,rr writes H, L and F but not Z; a jump writes only PC, a return PC and SP (and RETI the
IME state); a POP writes its pair and SP.  No byte of memory changes. -/
def Obligations.PairAndTransferFrame : Prop :=
  ∀ (s t : State) (i : Instr) (ds : List R8) (nn : Word) (e : Byte) (cc : Cond),
    (∀ r : Rp, (i = Instr.incRp r ∨ i = Instr.decRp r ∨ i = Instr.ldRpD16 r nn) →
      ds = (match r with | .bc => [.b, .c] | .de => [.d, .e] | .hl => [.h, .l] | .sp => []) →
      exec i s = .next t →
      keepsRegs s t ds ∧ t.regs.f = s.regs.f ∧ (r ≠ .sp → t.regs.sp = s.regs.sp) ∧ onlyRegs s t) ∧
    (∀ r : Rp, exec (Instr.addHLRp r) s = .next t →
      keepsRegs s t [.h, .l] ∧ t.regs.sp = s.regs.sp ∧ bit t.regs.f 7 = bit s.regs.f 7 ∧ onlyRegs s t) ∧
    (exec (.ld_hl_sp_e8 e) s = .next t → keepsRegs s t [.h, .l] ∧ t.regs.sp = s.regs.sp ∧ onlyRegs s t) ∧
    ((i = .add_sp_e8 e ∨ i = .ld_sp_hl) → exec i s = .next t → keepsRegs s t [] ∧ onlyRegs s t ∧
      (i = .ld_sp_hl → t.regs.f = s.regs.f)) ∧
    ((i = .ld_a_atHLi ∨ i = .ld_a_atHLd) → exec i s = .next t →
      keepsRegs s t [.a, .h, .l] ∧ t.regs.f = s.regs.f ∧ t.regs.sp = s.regs.sp ∧ onlyRegs s t) ∧
    ((i = .nop ∨ i = .jp_a16 nn ∨ i = Instr.jpCC cc nn ∨ i = .jp_hl ∨ i = .jr_e8 e ∨ i = Instr.jrCC cc e) →
      exec i s = .next t → keepsRegs s t [] ∧ t.regs.f = s.regs.f ∧ t.regs.sp = s.regs.sp ∧ onlyRegs s t) ∧
    ((i = .ret ∨ i = Instr.retCC cc) → exec i s = .next t →
      keepsRegs s t [] ∧ t.regs.f = s.regs.f ∧ onlyRegs s t) ∧
    (exec .reti s = .next t → keepsRegs s t [] ∧ t.regs.f = s.regs.f ∧
      onlyRegs { s with ime := true, imeArmed := false } t) ∧
    (∀ r : Rp2, exec (Instr.pop r) s = .next t →
      ds = (match r with | .bc => [.b, .c] | .de => [.d, .e] | .hl => [.h, .l] | .af => [.a]) →
      keepsRegs s t ds ∧ (r ≠ .af → t.regs.f = s.regs.f) ∧ t.regs.sp = s.regs.sp + 2 ∧ onlyRegs s t)

/-- What the forms that store one byte leave alone, `addr` being the address each stores to as its rule gives it: when
`addr` shows a storage byte, every other address reads as before (DIV and TIMA aside, which follow the counter); for
every address, the registers are as before but for HL in the stepping forms and F in INC, DEC and the CB rotates, and so
are the interrupt, parking and run state, the ROM and the host's side. -/
def Obligations.ByteStoreFrame : Prop :=
  ∀ (s t : State) (i : Instr) (addr : Word) (ds : List R8) (r : R8) (n : Byte) (nn : Word) (ro : RotOp) (b : BitIx),
    (ds = [] ∧ addr = s.regs.hl ∧ (i = Instr.ldAtHLR r ∨ i = .ld_atHL_d8 n ∨ i = .inc_atHL ∨ i = .dec_atHL ∨
        i = Instr.rotAtHL ro ∨ i = Instr.resAtHL b ∨ i = Instr.setAtHL b) ∨
      ds = [.h, .l] ∧ addr = s.regs.hl ∧ (i = .ld_atHLi_a ∨ i = .ld_atHLd_a) ∨
      ds = [] ∧ addr = s.regs.bc ∧ i = .ld_atBC_a ∨ ds = [] ∧ addr = s.regs.de ∧ i = .ld_atDE_a ∨
      ds = [] ∧ addr = nn ∧ i = .ld_atA16_a nn ∨ ds = [] ∧ addr = joinWord 0xFF n ∧ i = .ldh_atA8_a n ∨
      ds = [] ∧ addr = joinWord 0xFF s.regs.c ∧ i = .ldh_atC_a) →
    exec i s = .next t →
    keepsRegs s t ds ∧ t.regs.sp = s.regs.sp ∧ keepsControl s t ∧
    ((i = .inc_atHL ∨ i = .dec_atHL ∨ i = Instr.rotAtHL ro) ∨ t.regs.f = s.regs.f) ∧
    (∀ cell, storageAt s addr = some cell → ∀ a : Word, a ≠ 0xFF04 → a ≠ 0xFF05 →
      storageAt s a ≠ some cell → memRead t a = memRead s a)

/-- What the forms that store two bytes leave alone: PUSH, CALL (taken) and RST store at SP - 1 and SP - 2, LD (a16),SP at
its address and the next.  When both addresses show storage bytes, every other address reads as before. -/
def Obligations.WordStoreFrame : Prop :=
  ∀ (s t : State) (i : Instr) (lo hi : Word) (r : Rp2) (cc : Cond) (nn : Word) (v : RstVec),
    (lo = s.regs.sp - 2 ∧ hi = s.regs.sp - 1 ∧ (i = Instr.push r ∨ i = .call_a16 nn ∨ i = Instr.rst v ∨
        i = Instr.callCC cc nn ∧ condHolds (flagsOf s.regs.f) cc = true) ∨
      lo = nn ∧ hi = nn + 1 ∧ i = .ld_atA16_sp nn) →
    exec i s = .next t →
    keepsRegs s t [] ∧ t.regs.f = s.regs.f ∧ keepsControl s t ∧
    t.regs.sp = (if i = .ld_atA16_sp nn then s.regs.sp else s.regs.sp - 2) ∧
    (∀ c1 c2, storageAt s lo = some c1 → storageAt s hi = some c2 → ∀ a : Word, a ≠ 0xFF04 → a ≠ 0xFF05 →
      storageAt s a ≠ some c1 → storageAt s a ≠ some c2 → memRead t a = memRead s a)

/-! ## Interrupts -/

/-- 46_system R800: the end-of-instruction IME update, made after the instruction and before the events and the interrupt
check.  So with IME_ARMED set when an instruction starts, IME is 1 and IME_ARMED 0 at its end, whatever the instruction
but DI and the undefined opcodes; with DI both are 0; EI itself leaves IME 0 until the next instruction ends. -/
def Obligations.EiTakesEffectAfterTheNextInstruction : Prop :=
  (∀ (a0 : Bool) (t : State), t.fault = none → ∃ u : State,
    u = (if a0 = true ∧ t.imeArmed = true then { t with ime := true, imeArmed := false } else t) ∧
    afterInstruction a0 t = interruptCheck (processEvents u)) ∧
  (∀ (i : Instr) (s t : State), s.imeArmed = true → i ≠ .di → t.fault = none → exec i s = .next t →
    (endOfInstruction s.imeArmed t).ime = true ∧ (endOfInstruction s.imeArmed t).imeArmed = false) ∧
  (∀ s t : State, exec .di s = .next t →
    (endOfInstruction s.imeArmed t).ime = false ∧ (endOfInstruction s.imeArmed t).imeArmed = false) ∧
  (∀ s t : State, s.ime = false → s.imeArmed = false → exec .ei s = .next t →
    (endOfInstruction s.imeArmed t).ime = false ∧ (endOfInstruction s.imeArmed t).imeArmed = true)

/-- 60_exceptions R1111, R1120 and R1121: with nothing pending and enabled the check does nothing; else HALTED is cleared,
and with IME = 1 the lowest such interrupt k is dispatched: IME and IF[k] cleared, PC pushed high byte first, PC at
0x0040 + 8k, 20 cycles, then the events that have fallen due.  That both pushes happen with the counter as it stands before
the 20 cycles is the model's choice (log 17), as is their order at SP = 0x0001 (log 31: R555's pseudocode against its
corner case). -/
def Obligations.InterruptCheckAndDispatch : Prop :=
  ∀ (s : State) (p : Byte), p = s.ie &&& s.ioByte 0x0F &&& 0x1F →
    (p = 0 → interruptCheck s = s) ∧
    (p ≠ 0 → s.ime = false → interruptCheck s = { s with halted := false }) ∧
    (p ≠ 0 → s.ime = true → ∃ k, k < 5 ∧ bit p k = true ∧ (∀ j, j < k → bit p j = false) ∧
      ∃ u w v : State,
        u = { s with
          halted := false
          ime := false
          io := s.io.write 0x0F (s.ioByte 0x0F &&& ~~~((1 : Byte) <<< k))
          regs := { s.regs with sp := s.regs.sp - 1 } } ∧
        w = memWrite u (s.regs.sp - 1) (highByte s.regs.pc) ∧
        v = memWrite { w with regs := { s.regs with sp := s.regs.sp - 2 } } (s.regs.sp - 2) (lowByte s.regs.pc) ∧
        interruptCheck s = processEvents { v with
          regs := { s.regs with sp := s.regs.sp - 2, pc := BitVec.ofNat 16 (0x40 + 8 * k) }
          counter := s.counter + 20 })

/-! ## The bus -/

/-- 20_memory R201 and R202 with R204 to R211: what a read of each region gives and where a write to each goes, the echo
region being the system RAM 0x2000 below (R209).  10_state R62 and R121: under `HW` an unused I/O address reads 0xFF and
ignores writes, and the unused and write-only bits of the registers read 1; under `RAW` a write to an unused
address stores the byte, has no other effect, and the byte reads back.  That the two unused addresses between the sound
registers, 0xFF15 and 0xFF1F, store only while the APU is on, and ignore writes while it is off, is the model's choice
(log 19: R1014's range over R62 and R121). -/
def Obligations.BusMapAndUnusedIo : Prop :=
  (∀ (s : State) (a : Word) (v : Byte) (n : Nat), n = a.toNat →
     (n ≤ 0x3FFF → memRead s a = romRead s 0 n ∧ memWrite s a v = mbcWrite s n v) ∧
     (0x4000 ≤ n → n ≤ 0x7FFF →
       memRead s a = romRead s (romHiBank s) (n - 0x4000) ∧ memWrite s a v = mbcWrite s n v) ∧
     (0x8000 ≤ n → n ≤ 0x9FFF →
       memRead s a = s.vram.read (vramBank s * 0x2000 + (n - 0x8000)) ∧
       memWrite s a v = { s with vram := s.vram.write (vramBank s * 0x2000 + (n - 0x8000)) v }) ∧
     (0xA000 ≤ n → n ≤ 0xBFFF →
       memRead s a = cartRamRead s (n - 0xA000) ∧ memWrite s a v = cartRamWrite s (n - 0xA000) v) ∧
     (0xC000 ≤ n → n ≤ 0xCFFF →
       memRead s a = s.wram.read (n - 0xC000) ∧ memWrite s a v = { s with wram := s.wram.write (n - 0xC000) v }) ∧
     (0xD000 ≤ n → n ≤ 0xDFFF →
       memRead s a = s.wram.read (wramSel s * 0x1000 + (n - 0xD000)) ∧
       memWrite s a v = { s with wram := s.wram.write (wramSel s * 0x1000 + (n - 0xD000)) v }) ∧
     (0xE000 ≤ n → n ≤ 0xFDFF →
       memRead s a = memRead s (a - 0x2000) ∧ memWrite s a v = memWrite s (a - 0x2000) v) ∧
     (0xFE00 ≤ n → n ≤ 0xFEFF →
       memRead s a = s.oam.read (n - 0xFE00) ∧ memWrite s a v = { s with oam := s.oam.write (n - 0xFE00) v }) ∧
     (0xFF00 ≤ n → n ≤ 0xFF7F →
       memRead s a = ioRead s (n - 0xFF00) ∧ memWrite s a v = ioWrite s (n - 0xFF00) v) ∧
     (0xFF80 ≤ n → n ≤ 0xFFFE →
       memRead s a = s.hram.read (n - 0xFF00) ∧ memWrite s a v = { s with hram := s.hram.write (n - 0xFF00) v }) ∧
     (n = 0xFFFF → memRead s a = s.ie ∧ memWrite s a v = { s with ie := v }) ∧
     (memWrite s a v).rom = s.rom) ∧
  (∀ (s : State) (k : Nat) (v : Byte), k ≤ 0x7F →
     (s.params.ioReadback = .hw → ioUnused s.cgbMode k = true → ioRead s k = 0xFF ∧ ioWrite s k v = s) ∧
     (s.params.ioReadback = .hw → ioUnused s.cgbMode k = false → ioRead s k &&& ioReadMask s.cgbMode k =
       ioReadMask s.cgbMode k) ∧
     (s.params.ioReadback = .raw → ioUnused s.cgbMode k = true →
       (apuOn s = true ∨ k < 0x10 ∨ 0x25 < k →
         ioWrite s k v = { s with io := s.io.write k v } ∧ ioRead (ioWrite s k v) k = v) ∧
       (apuOn s = false → 0x10 ≤ k → k ≤ 0x25 → ioWrite s k v = s)))

/-- 20_memory R250: a read gives the value of the latest write to the same storage byte, under every alias (the echo, the
banks, MBC2's repeats), and a write to one storage byte changes what no other address reads. -/
def Obligations.LatestWriteIsRead : Prop :=
  ∀ (s : State) (a b : Word) (v : Byte) (cell : StorageByte), storageAt s a = some cell →
    memRead (memWrite s a v) b = if storageAt s b = some cell then shownAt s b v else memRead s b

/-! ## The cartridge -/

/-- 25_cartridge R326, R327, R331, R340 (the latch range of a cartridge with an RTC apart: `RealTimeClock`) and R352: what
each controller's write ranges set; R322:
on MBC1, MBC2 and MBC3 a ROM bank write of 0 leaves the very state a write of 1 leaves, on MBC5 it maps bank 0 at 0x4000;
R320, R328, R332, R341, R353: the bank mapped there is the register's, mod `ROM_BANKS`. -/
def Obligations.ControllersAndBanks : Prop :=
  (∀ (s : State) (a : Word) (v : Byte) (n : Nat) (m : Mapper), n = a.toNat → n ≤ 0x7FFF → m = s.mapper →
     (s.cart.kind = .none → memWrite s a v = s) ∧
     (s.cart.kind = .mbc1 → memWrite s a v = { s with
       mapper :=
         if n ≤ 0x1FFF then { m with ramEnabled := decide (v &&& 0x0F = 0x0A) }
       else if n ≤ 0x3FFF then { m with romBank := (if v &&& 0x1F = 0 then 1 else (v &&& 0x1F).toNat) }
       else if n ≤ 0x5FFF then { m with ramBank := v.toNat % 4 }
       else { m with mbc1Mode := bit v 0 } }) ∧
     (s.cart.kind = .mbc2 → memWrite s a v = { s with
       mapper :=
         if 0x4000 ≤ n then m
       else if a.getLsbD 8 = true then { m with romBank := (if v &&& 0x0F = 0 then 1 else (v &&& 0x0F).toNat) }
       else { m with ramEnabled := decide (v &&& 0x0F = 0x0A) } }) ∧
     (s.cart.kind = .mbc3 → n ≤ 0x5FFF ∨ s.cart.hasRtc = false → memWrite s a v = { s with
       mapper :=
         if n ≤ 0x1FFF then { m with ramEnabled := decide (v &&& 0x0F = 0x0A) }
       else if n ≤ 0x3FFF then { m with romBank := (if v &&& 0x7F = 0 then 1 else (v &&& 0x7F).toNat) }
       else if n ≤ 0x5FFF then { m with ramBank := v.toNat }
       else { m with rtcLatchPrev := v } }) ∧
     (s.cart.kind = .mbc5 → memWrite s a v = { s with
       mapper :=
         if n ≤ 0x1FFF then { m with ramEnabled := decide (v &&& 0x0F = 0x0A) }
       else if n ≤ 0x2FFF then { m with romBank := 256 * (m.romBank / 256) + v.toNat }
       else if n ≤ 0x3FFF then { m with romBank := 256 * (v.toNat % 2) + m.romBank % 256 }
       else if n ≤ 0x5FFF then { m with ramBank := if s.cart.rumble then v.toNat % 8 else v.toNat % 16 }
       else m })) ∧
  ((∀ (s : State) (a : Word), 0x2000 ≤ a.toNat → a.toNat ≤ 0x3FFF →
     (s.cart.kind = .mbc1 ∨ s.cart.kind = .mbc2 ∧ a.getLsbD 8 = true ∨ s.cart.kind = .mbc3) →
     memWrite s a 0 = memWrite s a 1) ∧
   (∀ (s : State) (a b : Word), s.cart.kind = .mbc5 → s.mapper.romBank < 256 → 0x2000 ≤ a.toNat → a.toNat ≤ 0x2FFF →
     b.toNat ≤ 0x3FFF → memRead (memWrite s a 0) (b + 0x4000) = memRead s b) ∧
   (∀ (s : State) (b : Word) (bank : Nat), b.toNat ≤ 0x3FFF →
     (s.cart.kind = .mbc1 ∧ bank = 32 * s.mapper.ramBank + s.mapper.romBank ∨
      (s.cart.kind = .mbc2 ∨ s.cart.kind = .mbc3 ∨ s.cart.kind = .mbc5) ∧ bank = s.mapper.romBank ∨
      s.cart.kind = .none ∧ bank = 1) →
     memRead s (b + 0x4000) = s.rom.read (bank % s.cart.romBanks * 0x4000 + b.toNat)))

/-- 25_cartridge R323, R325, R326, R330, R341 and R354, 20_memory R212: cartridge RAM that is disabled, or whose selected
bank is not there, reads 0xFF and drops writes; so does MBC3 without an RTC at a bank number of 8 and up; enabled and
there, it is the bank's byte; MBC2's is a four-bit cell that repeats every 512 bytes. -/
def Obligations.CartridgeRamWindow : Prop :=
  ∀ (s : State) (a : Word) (v : Byte) (off bank : Nat), 0xA000 ≤ a.toNat → a.toNat ≤ 0xBFFF → off = a.toNat - 0xA000 →
    (s.cart.kind ≠ .none → s.mapper.ramEnabled = false → memRead s a = 0xFF ∧ memWrite s a v = s) ∧
    (s.cart.cartType = 0x00 → memRead s a = 0xFF ∧ memWrite s a v = s) ∧
    (s.mapper.ramEnabled = true →
      (s.cart.kind = .mbc1 ∧ bank = (if s.mapper.mbc1Mode then s.mapper.ramBank else 0) ∨
       s.cart.kind = .mbc3 ∧ bank = s.mapper.ramBank ∧ bank < 8 ∨ s.cart.kind = .mbc5 ∧ bank = s.mapper.ramBank) →
      (bank < s.cart.ramBanks → memRead s a = s.cram.read (bank * 0x2000 + off) ∧
        memWrite s a v = { s with cram := s.cram.write (bank * 0x2000 + off) v }) ∧
      (s.cart.ramBanks ≤ bank → memRead s a = 0xFF ∧ memWrite s a v = s)) ∧
    (s.cart.kind = .mbc3 → s.cart.hasRtc = false → 8 ≤ s.mapper.ramBank → memRead s a = 0xFF ∧ memWrite s a v = s) ∧
    ((s.cart.cartType = 0x08 ∨ s.cart.cartType = 0x09) →
      memRead s a = s.cram.read off ∧ memWrite s a v = { s with cram := s.cram.write off v }) ∧
    (s.mapper.ramEnabled = true → s.cart.kind = .mbc2 →
      memRead s a = 0xF0 ||| s.cram.read (off % 512) ∧
      memWrite s a v = { s with cram := s.cram.write (off % 512) (v &&& 0x0F) })

/-- 25_cartridge R344: with in-range registers and the clock running, each tick is one second of a count of days, hours,
minutes and seconds that wraps after 512 days; the carry bit DH[7] is set by that wrap and cleared by nothing; a halted
clock does not tick.  R340, R343 and R345: the RTC is read through its latched copy with unused bits reading 1, whatever
time has passed; a latch (0x00 then 0x01 to 0x6000..0x7FFF) copies the registers advanced by the whole seconds since the
last sync; a write stores through the register's mask after that sync.  That a last sync later than host time counts as no time is the
model's choice (log 28). -/
def Obligations.RealTimeClock : Prop :=
  (∀ (r t : Rtc) (n : Nat) (value : Rtc → Nat),
     value = (fun q => q.s.toNat + 60 * q.m.toNat + 3600 * q.h.toNat +
       86400 * (q.dl.toNat + 256 * (q.dh.toNat % 2))) →
     t = Rtc.ticks n r →
     (bit r.dh 6 = true → t = r) ∧
     (bit r.dh 6 = false → r.s.toNat < 60 → r.m.toNat < 60 → r.h.toNat < 24 →
       value t = (value r + n) % (512 * 86400) ∧ t.s.toNat < 60 ∧ t.m.toNat < 60 ∧ t.h.toNat < 24 ∧
       bit t.dh 6 = false ∧ bit t.dh 7 = (bit r.dh 7 || decide (512 * 86400 ≤ value r + n)))) ∧
  (∀ (s : State) (a b : Word) (v : Byte) (j secs unit : Nat), s.cart.kind = .mbc3 → s.cart.hasRtc = true →
     unit = (match s.params.rtcUnit with | .seconds => 1 | .milliseconds => 1000) →
     secs = (s.host.time - s.mapper.rtcLastSync) / unit →
     0xA000 ≤ a.toNat → a.toNat ≤ 0xBFFF → 0x6000 ≤ b.toNat → b.toNat ≤ 0x7FFF →
     (s.mapper.rtcLatchPrev = 0x00 → memWrite s b 0x01 = { s with mapper := { s.mapper with
       rtc := Rtc.ticks secs s.mapper.rtc
       rtcLatched := Rtc.ticks secs s.mapper.rtc
       rtcLatchPrev := 0x01
       rtcLastSync := s.mapper.rtcLastSync + secs * unit } }) ∧
     (s.mapper.rtcLatchPrev ≠ 0x00 ∨ v ≠ 0x01 →
       memWrite s b v = { s with mapper := { s.mapper with rtcLatchPrev := v } }) ∧
     (s.mapper.ramEnabled = true → j ≤ 4 → s.mapper.ramBank = 8 + j →
       memRead s a = s.mapper.rtcLatched.get j ||| ~~~(rtcMask j) ∧
       memWrite s a v = { s with mapper := { s.mapper with
         rtc := (Rtc.ticks secs s.mapper.rtc).set j v
         rtcLastSync := if j = 0 then s.host.time else s.mapper.rtcLastSync + secs * unit } }) ∧
     (s.mapper.ramEnabled = true → 8 + 5 ≤ s.mapper.ramBank → memRead s a = 0xFF ∧ memWrite s a v = s))

/-- 25_cartridge R361 and R363: a battery dump loaded into a machine with the same cartridge gives back every byte of
cartridge RAM (MBC2: the low nibble of every cell) and the RTC registers as they stood, an RTC being synced first (the model's reading, log
26; logs 20 and 25 for the bytes R361 leaves open). -/
def Obligations.BatteryDumpRoundTrip : Prop :=
  ∀ s t u : State, t.cart = s.cart → Rtc.wf s.mapper.rtc → s.host.time < 2 ^ 64 → u = importDump (exportDump s) t →
    (exportDump s).length = s.cart.ramBanks * 8192 + 13 ∧
    (s.cart.kind ≠ .mbc2 → ∀ k, k < s.cart.ramBanks * 8192 → u.cram.read k = s.cram.read k) ∧
    (s.cart.kind = .mbc2 → 1 ≤ s.cart.ramBanks → ∀ k, k < 512 → u.cram.read k = s.cram.read k &&& 0x0F) ∧
    u.mapper.rtc = (if s.cart.hasRtc then (rtcSync s).mapper.rtc else s.mapper.rtc) ∧ u.mapper.rtcLastSync = s.host.time ∧ u.cram.wf = true

/-! ## Timer, serial port, joypad, DMA -/

/-- 10_state R66 and 60_exceptions R1150 to R1153: what DIV and TIMA read, what writing DIV, TIMA, TMA and TAC sets, and
the overflow event.  That the computed TIMA, as read and as a write of TAC takes it, is reduced mod 256, and that no time
has passed since a base later than the counter, is the model's choice (log 24) in states no run reaches: R1150 and R1151
reduce nothing, and by `StepLeavesNoDeadlineDue` the computed TIMA is below 256 under `TimerInv` and `NoDeadlineDue`. -/
def Obligations.TimerAndDivider : Prop :=
  ∀ (s : State) (v : Byte) (d : Nat) (period : Byte → Nat) (tima : Byte),
    period = (fun tac => if tac &&& 0x03 = 0x00 then 1024 else if tac &&& 0x03 = 0x01 then 16
      else if tac &&& 0x03 = 0x02 then 64 else 256) →
    tima = (if bit (s.ioByte 0x07) 2 then
      BitVec.ofNat 8 (s.timer.timaBase.toNat + (s.counter - s.timer.base) / period (s.ioByte 0x07))
      else s.timer.timaBase) →
    memRead s 0xFF04 = BitVec.ofNat 8 ((s.counter - s.timer.divBase) / 256) ∧
    memWrite s 0xFF04 v = { s with timer := { s.timer with divBase := s.counter } } ∧
    memRead s 0xFF05 = tima ∧
    memWrite s 0xFF05 v = (if bit (s.ioByte 0x07) 2 then { s with timer := { s.timer with
        timaBase := v, base := s.counter
        deadline := some (s.counter + (256 - v.toNat) * period (s.ioByte 0x07)) } }
      else { s with timer := { s.timer with timaBase := v } }) ∧
    memWrite s 0xFF06 v = { s with io := s.io.write 0x06 v } ∧
    memWrite s 0xFF07 v = { s with
      io := s.io.write 0x07 v
      timer := { s.timer with
        timaBase := tima, base := s.counter
        deadline := if bit v 2 then some (s.counter + (256 - tima.toNat) * period v) else none } } ∧
    runEvent s .timer d = { s with
      io := s.io.write 0x0F (s.ioByte 0x0F ||| 0x04)
      timer := { s.timer with
        timaBase := s.ioByte 0x06, base := d
        deadline := some (d + (256 - (s.ioByte 0x06).toNat) * period (s.ioByte 0x07)) } }

/-- 60_exceptions R1170: what a write of SC schedules or cancels, what a write of SB stores, and the completion of a
transfer with no partner. -/
def Obligations.SerialTransfers : Prop :=
  ∀ (s t : State) (v : Byte) (d : Nat),
    memWrite s 0xFF02 v = { s with
      io := s.io.write 0x02 v
      serialDeadline := if bit v 7 = true ∧ bit v 0 = true
        then some (s.counter + (if s.cgbMode = true ∧ bit v 1 = true then 128 else 4096)) else none } ∧
    memWrite s 0xFF01 v = { s with io := s.io.write 0x01 v } ∧
    (t = runEvent s .serial d →
      t.ioByte 0x01 = 0xFF ∧ t.ioByte 0x02 = s.ioByte 0x02 &&& 0x7F ∧ t.ioByte 0x0F = s.ioByte 0x0F ||| 0x08 ∧
      (∀ k, k ≠ 0x01 → k ≠ 0x02 → k ≠ 0x0F → t.ioByte k = s.ioByte k) ∧
      t = { s with io := t.io, serialDeadline := none })

/-- 10_state R63 and 60_exceptions R1180: JOYP's lines from the pressed buttons and the select bits, the two bits a write
stores, what pressing and releasing a button does, and how a step consumes the flag. -/
def Obligations.JoypadLinesAndInput : Prop :=
  ∀ (s : State) (v : Byte) (k : Button) (g : Buttons) (pad btn : Bool), g = s.host.buttons →
    pad = !bit (s.ioByte 0x00) 4 → btn = !bit (s.ioByte 0x00) 5 →
    bit (memRead s 0xFF00) 0 = !(pad && g.right || btn && g.a) ∧
    bit (memRead s 0xFF00) 1 = !(pad && g.left || btn && g.b) ∧
    bit (memRead s 0xFF00) 2 = !(pad && g.up || btn && g.select) ∧
    bit (memRead s 0xFF00) 3 = !(pad && g.down || btn && g.start) ∧
    bit (memRead s 0xFF00) 4 = bit (s.ioByte 0x00) 4 ∧ bit (memRead s 0xFF00) 5 = bit (s.ioByte 0x00) 5 ∧
    memWrite s 0xFF00 v = { s with io := s.io.write 0x00 ((s.ioByte 0x00 &&& 0xCF) ||| (v &&& 0x30)) } ∧
    (g.get k = true → buttonDown k s = s) ∧
    (g.get k = false → buttonDown k s = { s with host := { s.host with
      buttons := g.set k true, inputChanged := true } }) ∧
    buttonUp k s = { s with host := { s.host with buttons := g.set k false } } ∧
    (s.host.inputChanged = false → consumeInput s = s) ∧
    (s.host.inputChanged = true → consumeInput s = { s with
      io := s.io.write 0x0F (s.ioByte 0x0F ||| 0x10)
      stopped := false
      host := { s.host with inputChanged := false } })

/-- 20_memory R240: a write of `v` to 0xFF46 stores it and copies the 160 bytes at `v * 0x100` into OAM, as the bus reads
them then; nothing else changes.  R241 and R242 with 10_state R105 to R107: the HDMA block copy (for a source outside
VRAM byte for byte; for any source, each byte as the bus reads it at its turn), what writes of HDMA1 to HDMA4 set, and the
meanings of an HDMA5 write and read.  Two clauses are the model's choice: a destination outside VRAM's 8 KiB is reduced
into it, in states no run reaches (log 23); and a write of one half of an address recomputes the whole of it from both
registers, the destination also during a transfer (log 11). -/
def Obligations.DmaTransfers : Prop :=
  (∀ (s t : State) (v : Byte), t = memWrite s 0xFF46 v →
     t = { s with io := s.io.write 0x46 v, oam := t.oam } ∧
     (∀ i, i < 160 → t.oam.read i = memRead (s.setIo 0x46 v) (joinWord v (BitVec.ofNat 8 i))) ∧
     (∀ i, 160 ≤ i → t.oam.read i = s.oam.read i)) ∧
  (∀ (s t : State) (v : Byte) (target : Nat → Nat), s.cgbMode = true →
     target = (fun i => vramBank s * 0x2000 + (s.hdma.dst.toNat % 0x2000 + i) % 0x2000) →
     (t = hdmaBlock s →
       t = { s with vram := t.vram, hdma := t.hdma } ∧
       t.hdma.src = s.hdma.src + 16 ∧ t.hdma.dst = 0x8000 ||| ((s.hdma.dst + 16) &&& 0x1FF0) ∧
       t.hdma.remaining = (if s.hdma.active then s.hdma.remaining - 1 else s.hdma.remaining) ∧
       t.hdma.active = (s.hdma.active && decide (t.hdma.remaining ≠ 0)) ∧
       ((∀ i : Nat, i < 16 → (s.hdma.src + BitVec.ofNat 16 i).toNat < 0x8000 ∨
           0xA000 ≤ (s.hdma.src + BitVec.ofNat 16 i).toNat) →
         ∀ i : Nat, i < 16 → t.vram.read (target i) = memRead s (s.hdma.src + BitVec.ofNat 16 i)) ∧
       (∀ k : Nat, (∀ i, i < 16 → k ≠ target i) → t.vram.read k = s.vram.read k)) ∧
     (∀ i : Nat, hdmaCopy (i + 1) s = { hdmaCopy i s with
       vram := (hdmaCopy i s).vram.write (target i) (memRead (hdmaCopy i s) (s.hdma.src + BitVec.ofNat 16 i)) }) ∧
     memWrite s 0xFF51 v = { s with
       io := s.io.write 0x51 v
       hdma := { s.hdma with src := if s.hdma.active then s.hdma.src else joinWord v (s.ioByte 0x52 &&& 0xF0) } } ∧
     memWrite s 0xFF52 v = { s with
       io := s.io.write 0x52 v
       hdma := { s.hdma with src := if s.hdma.active then s.hdma.src else joinWord (s.ioByte 0x51) (v &&& 0xF0) } } ∧
     memWrite s 0xFF53 v = { s with
       io := s.io.write 0x53 v
       hdma := { s.hdma with dst := 0x8000 ||| joinWord (v &&& 0x1F) (s.ioByte 0x54 &&& 0xF0) } } ∧
     memWrite s 0xFF54 v = { s with
       io := s.io.write 0x54 v
       hdma := { s.hdma with dst := 0x8000 ||| joinWord (s.ioByte 0x53 &&& 0x1F) (v &&& 0xF0) } } ∧
     (s.hdma.active = true → bit v 7 = false →
       memWrite s 0xFF55 v = { s with hdma := { s.hdma with active := false } }) ∧
     (s.hdma.active = false → bit v 7 = false → memWrite s 0xFF55 v =
       { hdmaBlock^[v.toNat % 128 + 1] s with
         hdma := { (hdmaBlock^[v.toNat % 128 + 1] s).hdma with remaining := 0 } }) ∧
     (bit v 7 = true → memWrite s 0xFF55 v =
       { s with hdma := { s.hdma with remaining := v.toNat % 128 + 1, active := true } }) ∧
     (s.hdma.active = true → 1 ≤ s.hdma.remaining → s.hdma.remaining ≤ 128 →
       memRead s 0xFF55 = BitVec.ofNat 8 (s.hdma.remaining - 1)) ∧
     (s.hdma.active = false → memRead s 0xFF55 =
       if s.hdma.remaining = 0 then 0xFF else 0x80 ||| BitVec.ofNat 8 (s.hdma.remaining - 1)))

/-! ## The display -/

/-- 50_ppu R902 and R903: the event that ends each mode, with its new mode, LY and deadline, its interrupt requests, the
line it renders, the HBlank DMA block and the frame it publishes. -/
def Obligations.ModeEvents : Prop :=
  ∀ (s t : State) (d k : Nat) (stat lyc flags : Byte), k = (if s.doubleSpeed then 2 else 1) → lcdOn s = true →
    stat = s.ioByte 0x41 → lyc = s.ioByte 0x45 → flags = s.ioByte 0x0F → t = runEvent s .ppu d →
    (s.ppu.mode = .search → t = { s with ppu := { s.ppu with
      mode := .transfer
      modeDeadline := some (d + 172 * k)
      backBuffer := s.ppu.backBuffer.set s.ppu.ly.toNat (renderedLine s s.ppu.ly)
      windowLine := if windowVisible s s.ppu.ly && !bgDisabled s then s.ppu.windowLine + 1
        else s.ppu.windowLine } }) ∧
    (s.ppu.mode = .transfer → ∃ u : State, u = { s with
        io := if bit stat 3 then s.io.write 0x0F (flags ||| 0x02) else s.io
        ppu := { s.ppu with mode := .hblank, modeDeadline := some (d + 204 * k) } } ∧
      t = if s.hdma.active then hdmaBlock u else u) ∧
    (s.ppu.mode = .hblank → s.ppu.ly ≠ 143 →
      t.ppu = { s.ppu with mode := .search, ly := s.ppu.ly + 1, modeDeadline := some (d + 80 * k) } ∧
      t.ioByte 0x0F = flags ||| (if bit stat 5 ∨ s.ppu.ly + 1 = lyc ∧ bit stat 6 then 0x02 else 0x00) ∧
      t = { s with ppu := t.ppu, io := t.io }) ∧
    (s.ppu.mode = .hblank → s.ppu.ly = 143 →
      t.ppu.mode = .vblank ∧ t.ppu.ly = 144 ∧ t.ppu.modeDeadline = some (d + 456 * k) ∧ t.ppu.windowLine = 0 ∧
      t.ppu.publishedFrame = some s.ppu.backBuffer ∧ t.host.framesReady = s.host.framesReady + 1 ∧
      t.ioByte 0x0F = flags ||| 0x01 ||| (if bit stat 4 ∨ 144 = lyc ∧ bit stat 6 then 0x02 else 0x00)) ∧
    (s.ppu.mode = .vblank → s.ppu.ly = 153 →
      t.ppu = { s.ppu with mode := .search, ly := 0, modeDeadline := some (d + 80 * k) } ∧
      t.ioByte 0x0F = flags ||| (if bit stat 5 ∨ 0 = lyc ∧ bit stat 6 then 0x02 else 0x00) ∧
      t = { s with ppu := t.ppu, io := t.io }) ∧
    (s.ppu.mode = .vblank → s.ppu.ly ≠ 153 →
      t.ppu = { s.ppu with ly := s.ppu.ly + 1, modeDeadline := some (d + 456 * k) } ∧
      t.ioByte 0x0F = flags ||| (if s.ppu.ly + 1 = lyc ∧ bit stat 6 then 0x02 else 0x00) ∧
      t = { s with ppu := t.ppu, io := t.io })

/-- 50_ppu R901 and R902 put together: from line 0 in mode 2, 432 mode events reach line 144 in mode 1 after 144 lines of
456 cycles (doubled at double speed) with VBlank requested, and 10 more are back at line 0 in mode 2, 70224 cycles after
the start. -/
def Obligations.FrameTakesSeventyThousandCycles : Prop :=
  ∀ (trace : Nat → State) (d k : Nat), k = (if (trace 0).doubleSpeed then 2 else 1) → lcdOn (trace 0) = true →
    (trace 0).ppu.mode = .search → (trace 0).ppu.ly = 0 → (trace 0).ppu.modeDeadline = some d →
    (∀ n, ∃ e, (trace n).ppu.modeDeadline = some e ∧ trace (n + 1) = modeEvent (trace n) e) →
    (trace 432).ppu.mode = .vblank ∧ (trace 432).ppu.ly = 144 ∧ bit ((trace 432).ioByte 0x0F) 0 = true ∧
    (trace 432).ppu.modeDeadline = some (d + (144 * 456 + 376) * k) ∧
    (trace 442).ppu.mode = .search ∧ (trace 442).ppu.ly = 0 ∧
    (trace 442).ppu.modeDeadline = some (d + 70224 * k)

/-- 50_ppu R904 and R906 with 10_state R94 and R96: writes of LCDC, STAT, LY and LYC, the switch of the LCD off and on,
and the off-frame event's blank frame.  10_state R110 and R111: in `cgb_mode` the palette data registers read and write
the byte the index register selects, and a write moves the index on, mod 64, if that register's bit 7 is set.  Two clauses
are the model's choice: a write of STAT keeps the stored bit 7 under `RAW` too (log 9), and the blank frame's white is
DMG shade 0 in both modes (log 15). -/
def Obligations.LcdRegisterWrites : Prop :=
  ∀ (s t : State) (v : Byte) (d k : Nat) (next : Byte → Byte), k = (if s.doubleSpeed then 2 else 1) →
    next = (fun ps => if bit ps 7 then (ps &&& 0xC0) ||| BitVec.ofNat 8 ((ps.toNat % 64 + 1) % 64) else ps) →
    (lcdOn s = true → bit v 7 = false → memWrite s 0xFF40 v = { s with
      io := s.io.write 0x40 v
      ppu := { s.ppu with
        ly := 0
        mode := .hblank
        modeDeadline := none
        frameDeadlineOff := some (s.counter + 70224 * k) } }) ∧
    (lcdOn s = false → bit v 7 = true → memWrite s 0xFF40 v = { s with
      io := s.io.write 0x40 v
      ppu := { s.ppu with
        ly := 0
        mode := .search
        windowLine := 0
        frameDeadlineOff := none
        modeDeadline := some (s.counter + 80 * k) } }) ∧
    (lcdOn s = bit v 7 → memWrite s 0xFF40 v = { s with io := s.io.write 0x40 v }) ∧
    memWrite s 0xFF41 v = { s with io := s.io.write 0x41 ((s.ioByte 0x41 &&& 0x87) ||| (v &&& 0x78)) } ∧
    memWrite s 0xFF44 v = s ∧
    (t = memWrite s 0xFF45 v → t.ioByte 0x45 = v ∧ t = { s with io := t.io } ∧
      t.ioByte 0x0F = s.ioByte 0x0F |||
        (if lcdOn s = true ∧ s.ppu.ly = v ∧ bit (s.ioByte 0x41) 6 = true then 0x02 else 0x00)) ∧
    (lcdOn s = false → t = runEvent s .ppu d →
      t.ppu.publishedFrame = some (Frame.uniform (.dmg 0)) ∧ t.host.framesReady = s.host.framesReady + 1 ∧
      t.ppu.frameDeadlineOff = some (d + 70224 * k) ∧ t.ioByte 0x0F = s.ioByte 0x0F ∧
      t.ppu.ly = s.ppu.ly ∧ t.ppu.mode = s.ppu.mode) ∧
    (s.cgbMode = true →
      memRead s 0xFF69 = s.bgPal.read ((s.ioByte 0x68).toNat % 64) ∧
      memWrite s 0xFF69 v = { s with
        io := s.io.write 0x68 (next (s.ioByte 0x68))
        bgPal := s.bgPal.write ((s.ioByte 0x68).toNat % 64) v } ∧
      memRead s 0xFF6B = s.objPal.read ((s.ioByte 0x6A).toNat % 64) ∧
      memWrite s 0xFF6B v = { s with
        io := s.io.write 0x6A (next (s.ioByte 0x6A))
        objPal := s.objPal.write ((s.ioByte 0x6A).toNat % 64) v })

/-- 50_ppu R910, R912 and R920: rendering a line writes the 160 pixels of that row and no other, and only the window line
counter beside it; the background's colour index is the bit pair of the tile row its map entry names. -/
def Obligations.RenderingWritesOneRow : Prop :=
  (∀ (s t : State) (ly : Byte), Frame.wf s.ppu.backBuffer → ly.toNat < 144 → t = renderLine s ly →
    t = { s with ppu := { s.ppu with backBuffer := t.ppu.backBuffer, windowLine := t.ppu.windowLine } } ∧
    Frame.wf t.ppu.backBuffer ∧ (∀ row : Nat, row ≠ ly.toNat → t.ppu.backBuffer[row]? = s.ppu.backBuffer[row]?) ∧
    (∀ px : Nat, px < 160 → (t.ppu.backBuffer[ly.toNat]?.bind fun row => row[px]?) =
      some (composePixel s (bySpritePriority (spritesOnLine s ly)) ly px)) ∧
    t.ppu.windowLine = (if windowVisible s ly && !bgDisabled s then s.ppu.windowLine + 1 else s.ppu.windowLine)) ∧
  (∀ (lo hi : Byte) (c : Nat), c < 8 →
    (colourIndex lo hi c).getLsbD 1 = bit hi (7 - c) ∧ (colourIndex lo hi c).getLsbD 0 = bit lo (7 - c)) ∧
  (∀ (s : State) (ly : Byte) (px bx bY : Nat) (t : Byte), bgDisabled s = false → windowCovers s ly px = false →
    s.cgbMode = false → bx = (px + (s.ioByte 0x43).toNat) % 256 → bY = (ly.toNat + (s.ioByte 0x42).toNat) % 256 →
    t = s.vram.read ((if bit (s.ioByte 0x40) 3 then 0x1C00 else 0x1800) + bY / 8 * 32 + bx / 8) →
    (bgPixelAt s ly px).index = colourIndex (s.vram.read (bgTileOffset (s.ioByte 0x40) t + 2 * (bY % 8)))
      (s.vram.read (bgTileOffset (s.ioByte 0x40) t + 2 * (bY % 8) + 1)) (bx % 8))

/-- 50_ppu R940 and R944: the sprites of a line are those of OAM's 40 entries whose rows reach it, in OAM order, none while
LCDC[1] = 0, at most the first ten under `TEN`; in priority order they are the same sprites by rising X, and sprites
of one X keep their OAM order.  R945: the compositor.  `front` is the first opaque foreground sprite, `back` the first
opaque background-priority one, if any; a sprite is foreground with attribute bit 7 = 0, or on CGB with master priority
off. -/
def Obligations.SpritesAndCompositor : Prop :=
  ((∀ (s : State) (ly : Byte) (all : List Sprite),
     all = ((List.range 40).map (spriteAt s)).filter (fun o => decide (o.y.toNat ≤ ly.toNat + 16 ∧
       ly.toNat + 16 < o.y.toNat + (if bit (s.ioByte 0x40) 2 then 16 else 8))) →
     (bit (s.ioByte 0x40) 1 = false → spritesOnLine s ly = []) ∧
     (bit (s.ioByte 0x40) 1 = true → s.params.spriteLineLimit = .ten → spritesOnLine s ly = all.take 10) ∧
     (bit (s.ioByte 0x40) 1 = true → s.params.spriteLineLimit = .none → spritesOnLine s ly = all)) ∧
   (∀ l : List Sprite, (bySpritePriority l).Perm l ∧
     (bySpritePriority l).Pairwise (fun o p => o.x.toNat ≤ p.x.toNat) ∧
     ∀ x : Byte, (bySpritePriority l).filter (fun o => o.x == x) = l.filter (fun o => o.x == x))) ∧
  (∀ (s : State) (sprites : List Sprite) (ly : Byte) (px : Nat) (bg : BgPixel) (fore : Sprite → Bool)
     (front back : Option Sprite), bg = bgPixelAt s ly px →
     fore = (fun o => !bit o.attr 7 || (s.cgbMode && !bit (s.ioByte 0x40) 0)) →
     front = sprites.find? (fun o => fore o && o.opaqueAt s ly px) →
     back = sprites.find? (fun o => !fore o && o.opaqueAt s ly px) →
     (s.cgbMode = true → bit (s.ioByte 0x40) 0 = true → bit bg.attr 7 = true → bg.index ≠ 0 →
       composePixel s sprites ly px = bgOut s bg) ∧
     ((s.cgbMode = false ∨ bit (s.ioByte 0x40) 0 = false ∨ bit bg.attr 7 = false ∨ bg.index = 0) →
       (∀ f, front = some f → composePixel s sprites ly px = spriteOutAt s f ly px) ∧
       (∀ b, front = none → back = some b → bg.index = 0 →
         composePixel s sprites ly px = spriteOutAt s b ly px) ∧
       (front = none → (back = none ∨ bg.index ≠ 0) → composePixel s sprites ly px = bgOut s bg)))

/-! ## Sound -/

/-- 55_apu R1012, R1014, R1015 and R1020's loads: a trigger write of each channel, the length loads, powering the APU
off and on, the register writes it ignores while off, and what NR52 reads.  The unused addresses between the registers are
left to `BusMapAndUnusedIo` (log 19). -/
def Obligations.SoundTriggersAndPower : Prop :=
  ∀ (s t : State) (v : Byte) (k : Nat) (x : Nat),
    (apuOn s = true → bit v 7 = true → x = (v.toNat % 8) * 256 + (s.ioByte 0x13).toNat → t = memWrite s 0xFF14 v →
      t.ioByte 0x14 = v ∧ t.apu.ch1.length = (if s.apu.ch1.length = 0 then 64 else s.apu.ch1.length) ∧
      t.apu.ch1.lengthEnable = bit v 6 ∧ t.apu.ch1.phase = 0 ∧ t.apu.shadowFreq = x ∧ t.apu.sweepTimer = 0 ∧
      t.apu.env1 = ⟨(s.ioByte 0x12).toNat / 16, 0⟩ ∧
      (t.apu.ch1.enabled = true ↔ s.ioByte 0x12 &&& 0xF8 ≠ 0 ∧
        ((s.ioByte 0x10).toNat % 8 = 0 ∨ sweepCalc (s.ioByte 0x10) x ≤ 2047))) ∧
    (apuOn s = true → bit v 7 = true → t = memWrite s 0xFF19 v →
      t = { s with
        io := s.io.write 0x19 v
        apu := { s.apu with
          ch2 := { enabled := decide (s.ioByte 0x17 &&& 0xF8 ≠ 0)
                   length := if s.apu.ch2.length = 0 then 64 else s.apu.ch2.length
                   lengthEnable := bit v 6, phase := 0 }
          env2 := ⟨(s.ioByte 0x17).toNat / 16, 0⟩ } }) ∧
    (apuOn s = true → bit v 7 = true → t = memWrite s 0xFF1E v →
      t = { s with
        io := s.io.write 0x1E v
        apu := { s.apu with
          ch3 := { enabled := bit (s.ioByte 0x1A) 7
                   length := if s.apu.ch3.length = 0 then 256 else s.apu.ch3.length
                   lengthEnable := bit v 6, phase := 0 } } }) ∧
    (apuOn s = true → bit v 7 = true → t = memWrite s 0xFF23 v →
      t = { s with
        io := s.io.write 0x23 v
        apu := { s.apu with
          ch4 := { enabled := decide (s.ioByte 0x21 &&& 0xF8 ≠ 0)
                   length := if s.apu.ch4.length = 0 then 64 else s.apu.ch4.length
                   lengthEnable := bit v 6, phase := 0 }
          env4 := ⟨(s.ioByte 0x21).toNat / 16, 0⟩
          lfsr := 0x7FFF } }) ∧
    (apuOn s = true →
      memWrite s 0xFF11 v = { s with
        io := s.io.write 0x11 v
        apu := { s.apu with ch1 := { s.apu.ch1 with length := 64 - v.toNat % 64 } } } ∧
      memWrite s 0xFF16 v = { s with
        io := s.io.write 0x16 v
        apu := { s.apu with ch2 := { s.apu.ch2 with length := 64 - v.toNat % 64 } } } ∧
      memWrite s 0xFF1B v = { s with
        io := s.io.write 0x1B v
        apu := { s.apu with ch3 := { s.apu.ch3 with length := 256 - v.toNat } } } ∧
      memWrite s 0xFF20 v = { s with
        io := s.io.write 0x20 v
        apu := { s.apu with ch4 := { s.apu.ch4 with length := 64 - v.toNat % 64 } } }) ∧
    (apuOn s = false → 0x10 ≤ k → k ≤ 0x25 → unusedIo k = false → memWrite s (0xFF00 + BitVec.ofNat 16 k) v = s) ∧
    (apuOn s = true → bit v 7 = false → t = memWrite s 0xFF26 v →
      (∀ j, 0x10 ≤ j → j ≤ 0x25 → unusedIo j = false → t.ioByte j = 0x00) ∧ apuOn t = false ∧
      (∀ c ∈ [t.apu.ch1, t.apu.ch2, t.apu.ch3, t.apu.ch4],
        c.enabled = false ∧ c.length = 0 ∧ c.lengthEnable = false) ∧ t.wave = s.wave) ∧
    (apuOn s = false → bit v 7 = true → t = memWrite s 0xFF26 v → t = { s with io := t.io } ∧ apuOn t = true ∧
      ∀ j, j ≠ 0x26 → t.ioByte j = s.ioByte j) ∧
    (apuOn s = bit v 7 → t = memWrite s 0xFF26 v → t.apu = s.apu ∧ ∀ j, j ≠ 0x26 → t.ioByte j = s.ioByte j) ∧
    (s.params.ioReadback = .hw → memRead s 0xFF26 = (if apuOn s then 0x80 else 0x00) ||| 0x70 |||
      (if s.apu.ch4.enabled then 0x08 else 0x00) ||| (if s.apu.ch3.enabled then 0x04 else 0x00) |||
      (if s.apu.ch2.enabled then 0x02 else 0x00) ||| (if s.apu.ch1.enabled then 0x01 else 0x00))

/-- 55_apu R1020, R1030, R1035 and R1060: what one frame tick does to the length counters, the envelopes and the sweep,
in that order, whatever samples were delivered before them; nothing while the APU is off. -/
def Obligations.SoundFrameTick : Prop :=
  ∀ (s t : State) (after : Channel → Bool), t = apuFrameTick s →
    after = (fun c => c.enabled && !(c.lengthEnable && decide (c.length = 1))) →
    (apuOn s = false → t = s) ∧
    (apuOn s = true →
      (∀ p ∈ [(s.apu.ch1, t.apu.ch1), (s.apu.ch2, t.apu.ch2), (s.apu.ch3, t.apu.ch3), (s.apu.ch4, t.apu.ch4)],
        p.2.length = (if p.1.lengthEnable then p.1.length - 1 else p.1.length) ∧
        p.2.lengthEnable = p.1.lengthEnable) ∧
      (∀ p ∈ [(s.apu.ch2, t.apu.ch2), (s.apu.ch3, t.apu.ch3), (s.apu.ch4, t.apu.ch4)], p.2.enabled = after p.1) ∧
      (∀ p ∈ [(s.apu.ch1, s.apu.env1, t.apu.env1, s.ioByte 0x12), (s.apu.ch2, s.apu.env2, t.apu.env2, s.ioByte 0x17),
          (s.apu.ch4, s.apu.env4, t.apu.env4, s.ioByte 0x21)],
        (after p.1 = false ∨ p.2.2.2.toNat % 8 = 0 → p.2.2.1 = p.2.1) ∧
        (after p.1 = true → p.2.2.2.toNat % 8 ≠ 0 → p.2.1.timer + 1 < p.2.2.2.toNat % 8 →
          p.2.2.1 = ⟨p.2.1.volume, p.2.1.timer + 1⟩) ∧
        (after p.1 = true → p.2.2.2.toNat % 8 ≠ 0 → p.2.2.2.toNat % 8 ≤ p.2.1.timer + 1 →
          p.2.2.1 = ⟨if bit p.2.2.2 3 then (if p.2.1.volume < 15 then p.2.1.volume + 1 else p.2.1.volume)
            else p.2.1.volume - 1, 0⟩)) ∧
      (∀ period f : Nat, period = (s.ioByte 0x10).toNat / 16 % 8 → f = sweepCalc (s.ioByte 0x10) s.apu.shadowFreq →
        (after s.apu.ch1 = false ∨ period = 0 → t.apu.ch1.enabled = after s.apu.ch1 ∧ t.io = s.io ∧
          t.apu.shadowFreq = s.apu.shadowFreq ∧ t.apu.sweepTimer = s.apu.sweepTimer) ∧
        (after s.apu.ch1 = true → period ≠ 0 → s.apu.sweepTimer + 1 < period → t.apu.ch1.enabled = true ∧
          t.io = s.io ∧ t.apu.shadowFreq = s.apu.shadowFreq ∧ t.apu.sweepTimer = s.apu.sweepTimer + 1) ∧
        (after s.apu.ch1 = true → period ≠ 0 → period ≤ s.apu.sweepTimer + 1 → t.apu.sweepTimer = 0 ∧
          (2047 < f → t.apu.ch1.enabled = false ∧ t.apu.shadowFreq = s.apu.shadowFreq ∧ t.io = s.io) ∧
          (f ≤ 2047 → t.apu.ch1.enabled = true ∧
            ((s.ioByte 0x10).toNat % 8 = 0 → t.apu.shadowFreq = s.apu.shadowFreq ∧ t.io = s.io) ∧
            ((s.ioByte 0x10).toNat % 8 ≠ 0 → t.apu.shadowFreq = f ∧ freq1 t = f ∧
              t.ioByte 0x14 &&& 0xF8 = s.ioByte 0x14 &&& 0xF8)))))

/-- 55_apu R1040, R1045, R1050, R1081 and R1082: the duty patterns, the wave sample's shift, the LFSR step, the mixer's
wrap to a signed byte, and that a channel that does not sound contributes nothing. -/
def Obligations.GeneratorsAndMixer : Prop :=
  ((List.range 8).map (dutyBit 0) = [false, false, false, false, false, false, false, true] ∧
   (List.range 8).map (dutyBit 1) = [true, false, false, false, false, false, false, true] ∧
   (List.range 8).map (dutyBit 2) = [true, false, false, false, false, true, true, true] ∧
   (List.range 8).map (dutyBit 3) = [false, true, true, true, true, true, true, false]) ∧
  (∀ (w : Bool) (x : BitVec 15) (b : Bool), b = (x.getLsbD 0 ^^ x.getLsbD 1) →
    (lfsrStep w x).getLsbD 14 = b ∧ (lfsrStep w x).getLsbD 6 = (if w then b else x.getLsbD 7) ∧
    ∀ j, j < 14 → j ≠ 6 → (lfsrStep w x).getLsbD j = x.getLsbD (j + 1)) ∧
  (∀ v : Int, -128 ≤ wrap8 v ∧ wrap8 v ≤ 127 ∧ (wrap8 v - v) % 256 = 0) ∧
  (∀ (s : State) (i : Nat), i < 32 → waveNibble s i =
    (if i % 2 = 0 then (s.wave.read (i / 2)).toNat / 16 else (s.wave.read (i / 2)).toNat % 16)) ∧
  (∀ s : State, ((s.apu.ch1.enabled && envDacOn (s.ioByte 0x12)) = false → sampleCh1 s = (none, s)) ∧
    ((s.apu.ch2.enabled && envDacOn (s.ioByte 0x17)) = false → sampleCh2 s = (none, s)) ∧
    ((s.apu.ch3.enabled && waveDacOn (s.ioByte 0x1A)) = false → sampleCh3 s = (none, s)) ∧
    ((s.apu.ch4.enabled && envDacOn (s.ioByte 0x21)) = false → sampleCh4 s = (none, s))) ∧
  (∀ (k vol : Nat) (routed : Bool) (n : Nat), contribution k routed vol none = 0 ∧
    contribution k false vol (some n) = 0 ∧ contribution k true vol (some n) = Config.channelAmplitude k n vol) ∧
  (∀ (s : State) (v : Levels), ∀ x ∈ mixSample s v, -128 ≤ x ∧ x ≤ 127)

/-! ## The life of a run -/

/-- 60_exceptions R1190, R1192 and R1130 with 10_state R60: `run()` is refused on a running core and after a run has
ended, `stop()` on a core that is not running; a run ends by `stop()` or by IllegalOpcode, and once the end is recorded (`stop()`
does so at once, the loop of `run()` at its next turn) no run starts again; the audio sink's `stop()` is called when it
ends, and its `dispose()` at teardown.  70_reset R1200 and R1211: a reset starts no run and keeps the host's inputs.  Of
this the model's choices are: the sink's calls are a record in the state, and a teardown does nothing but add to it (log
14); at a reset the buttons are released and the other host inputs survive (log 22: R132's reset values against R1211). -/
def Obligations.LifeOfARun : Prop :=
  (∀ s t : State,
    (s.running = true → startRun s = .error .alreadyRunning ∧
      stopRun s = .ok { s with
        running := false
        runEnded := true
        host := { s.host with sinkCalls := .stop :: s.host.sinkCalls } }) ∧
    (s.running = false → s.runEnded = true → startRun s = .error .runEnded) ∧
    (s.running = false → s.runEnded = false → startRun s = .ok { s with running := true }) ∧
    (s.running = false → stopRun s = .error .notRunning) ∧
    (stopRun s = .ok t → ∃ e, startRun t = .error e) ∧
    (step s = .next t → s.running = true → t.running = false → s.fault = none → ∃ op addr, t.fault = some ⟨op, addr⟩) ∧
    (step s = .next t → s.fault = none → t.fault ≠ none → t.running = false ∧ t.counter = s.counter ∧
      t.regs = s.regs ∧ t.ime = s.ime ∧ t.imeArmed = s.imeArmed ∧ t.halted = s.halted) ∧
    (∀ n, s.running = false → 1 ≤ n → runLoop n s = if s.runEnded then s else { s with
      runEnded := true
      host := { s.host with sinkCalls := .stop :: s.host.sinkCalls } }) ∧
    teardown s = { s with host := { s.host with sinkCalls := .dispose :: s.host.sinkCalls } }) ∧
  (∀ (p : Params) (ram : InitRam) (gbc : Bool) (image : List Byte) (dump : Option (List Byte)) (host : HostSide) (s : State),
    load p ram gbc image dump host = .ok s →
      s.host.time = host.time ∧ s.host.soundEnabled = host.soundEnabled ∧ s.host.sampleSlots = host.sampleSlots ∧
      s.host.buttons = ⟨false, false, false, false, false, false, false, false⟩ ∧ s.host.inputChanged = false ∧
      s.running = false ∧ s.runEnded = false ∧ s.fault = none ∧ s.ime = false ∧ s.regs.pc = 0x0100)
end

