-- ==== Sys2Proof/Laws/Memory.lean ====
section
/-! SUPPORT. The laws of one byte array: reading after writing, and that every operation keeps the canonical form. -/

namespace Sys2Proof.Machine

/-! ## Cells -/

theorem lookupCell_insertCell_same (l : List Host.Cell) (a : Nat) (v : Byte) :
    lookupCell (insertCell l a v) a = some v := by
  induction l with
  | nil => simp [insertCell, lookupCell]
  | cons x rest ih =>
    obtain ⟨k, w⟩ := x
    simp only [insertCell]
    split
    · simp [lookupCell]
    · split
      · simp [lookupCell]
      · rename_i h
        simp [lookupCell, Ne.symm h, ih]

theorem lookupCell_insertCell_other (l : List Host.Cell) {a b : Nat} (v : Byte) (h : b ≠ a) :
    lookupCell (insertCell l a v) b = lookupCell l b := by
  induction l with
  | nil => simp [insertCell, lookupCell, h.symm]
  | cons x rest ih =>
    obtain ⟨k, w⟩ := x
    simp only [insertCell]
    split
    · simp [lookupCell, h.symm]
    · split
      · rename_i hk
        subst hk
        simp [lookupCell, h.symm]
      · simp [lookupCell, ih]

theorem lookupCell_eraseCell_same (l : List Host.Cell) (a : Nat) : lookupCell (eraseCell l a) a = none := by
  induction l with
  | nil => rfl
  | cons x rest ih =>
    obtain ⟨k, w⟩ := x
    simp only [eraseCell]
    split
    · exact ih
    · simp [lookupCell, *]

theorem lookupCell_eraseCell_other (l : List Host.Cell) {a b : Nat} (h : b ≠ a) :
    lookupCell (eraseCell l a) b = lookupCell l b := by
  induction l with
  | nil => rfl
  | cons x rest ih =>
    obtain ⟨k, w⟩ := x
    simp only [eraseCell]
    split
    · rename_i hk
      subst hk
      simp [lookupCell, h.symm, ih]
    · simp [lookupCell, ih]

/-! ## Reading after writing -/

@[simp] theorem Memory.fill_write (m : Memory) (a : Nat) (v : Byte) : (m.write a v).fill = m.fill := by
  unfold Memory.write
  split <;> rfl

@[simp] theorem Memory.read_empty (v : Byte) (a : Nat) : (Memory.empty v).read a = v := rfl

@[simp] theorem Memory.read_write_same (m : Memory) (a : Nat) (v : Byte) : (m.write a v).read a = v := by
  unfold Memory.write Memory.read
  split
  · simp [lookupCell_eraseCell_same, *]
  · simp [lookupCell_insertCell_same]

theorem Memory.read_write_other (m : Memory) {a b : Nat} (v : Byte) (h : b ≠ a) :
    (m.write a v).read b = m.read b := by
  unfold Memory.write Memory.read
  split
  · simp [lookupCell_eraseCell_other _ h]
  · simp [lookupCell_insertCell_other _ _ h]

theorem Memory.read_write (m : Memory) (a b : Nat) (v : Byte) :
    (m.write a v).read b = if b = a then v else m.read b := by
  split
  · subst b; simp
  · exact m.read_write_other v ‹_›

/-! ## The canonical form -/

/-- Every address of the list lies above `a`. -/
def cellsAbove (a : Nat) (l : List Host.Cell) : Prop := ∀ x ∈ l, a < x.1

theorem risingCells_cons {x : Host.Cell} {l : List Host.Cell} :
    risingCells (x :: l) = true ↔ cellsAbove x.1 l ∧ risingCells l = true := by
  induction l generalizing x with
  | nil => simp [risingCells, cellsAbove]
  | cons y rest ih =>
    simp only [risingCells, Bool.and_eq_true, decide_eq_true_eq, ih, cellsAbove, List.mem_cons, forall_eq_or_imp]
    constructor
    · rintro ⟨h, h1, h2⟩
      exact ⟨⟨h, fun z hz => h.trans (h1 z hz)⟩, h1, h2⟩
    · rintro ⟨⟨h, -⟩, h1, h2⟩
      exact ⟨h, h1, h2⟩

theorem cellsAbove_insertCell {a k : Nat} {l : List Host.Cell} {v : Byte} (hk : k < a) (h : cellsAbove k l) :
    cellsAbove k (insertCell l a v) := by
  induction l with
  | nil => simpa [insertCell, cellsAbove] using hk
  | cons x rest ih =>
    obtain ⟨j, w⟩ := x
    simp only [cellsAbove, List.mem_cons, forall_eq_or_imp] at h
    simp only [insertCell]
    split
    · simp only [cellsAbove, List.mem_cons, forall_eq_or_imp]
      exact ⟨hk, h.1, h.2⟩
    · split
      · simp only [cellsAbove, List.mem_cons, forall_eq_or_imp]
        exact ⟨hk, h.2⟩
      · simp only [cellsAbove, List.mem_cons, forall_eq_or_imp]
        exact ⟨h.1, ih h.2⟩

theorem cellsAbove_eraseCell {a k : Nat} {l : List Host.Cell} (h : cellsAbove k l) :
    cellsAbove k (eraseCell l a) := by
  induction l with
  | nil => exact h
  | cons x rest ih =>
    obtain ⟨j, w⟩ := x
    simp only [cellsAbove, List.mem_cons, forall_eq_or_imp] at h
    simp only [eraseCell]
    split
    · exact ih h.2
    · simp only [cellsAbove, List.mem_cons, forall_eq_or_imp]
      exact ⟨h.1, ih h.2⟩

theorem risingCells_insertCell {l : List Host.Cell} (a : Nat) (v : Byte) (h : risingCells l = true) :
    risingCells (insertCell l a v) = true := by
  induction l with
  | nil => rfl
  | cons x rest ih =>
    obtain ⟨k, w⟩ := x
    have hr := risingCells_cons.mp h
    simp only [insertCell]
    split
    · refine risingCells_cons.mpr ⟨?_, h⟩
      simp only [cellsAbove, List.mem_cons, forall_eq_or_imp]
      exact ⟨‹_›, fun y hy => lt_trans ‹_› (hr.1 y hy)⟩
    · split
      · rename_i hk
        subst hk
        exact risingCells_cons.mpr hr
      · exact risingCells_cons.mpr ⟨cellsAbove_insertCell (by simp only; omega) hr.1, ih hr.2⟩

theorem risingCells_eraseCell {l : List Host.Cell} (a : Nat) (h : risingCells l = true) :
    risingCells (eraseCell l a) = true := by
  induction l with
  | nil => rfl
  | cons x rest ih =>
    obtain ⟨k, w⟩ := x
    have hr := risingCells_cons.mp h
    simp only [eraseCell]
    split
    · exact ih hr.2
    · exact risingCells_cons.mpr ⟨cellsAbove_eraseCell hr.1, ih hr.2⟩

theorem mem_insertCell {l : List Host.Cell} {a : Nat} {v : Byte} {x : Host.Cell} (h : x ∈ insertCell l a v) :
    x = (a, v) ∨ x ∈ l := by
  induction l with
  | nil => simpa [insertCell] using h
  | cons y rest ih =>
    obtain ⟨k, w⟩ := y
    simp only [insertCell] at h
    split at h
    · simpa using h
    · split at h
      · rcases List.mem_cons.mp h with h | h
        · exact .inl h
        · exact .inr (List.mem_cons_of_mem _ h)
      · rcases List.mem_cons.mp h with h | h
        · exact .inr (h ▸ List.mem_cons_self)
        · exact (ih h).imp_right (List.mem_cons_of_mem _)

theorem mem_eraseCell {l : List Host.Cell} {a : Nat} {x : Host.Cell} (h : x ∈ eraseCell l a) : x ∈ l := by
  induction l with
  | nil => exact h
  | cons y rest ih =>
    obtain ⟨k, w⟩ := y
    simp only [eraseCell] at h
    split at h
    · exact List.mem_cons_of_mem _ (ih h)
    · rcases List.mem_cons.mp h with h | h
      · exact h ▸ List.mem_cons_self
      · exact List.mem_cons_of_mem _ (ih h)

theorem Memory.wf_iff {m : Memory} :
    m.wf = true ↔ risingCells m.cells = true ∧ ∀ x ∈ m.cells, x.2 ≠ m.fill := by
  simp [Memory.wf]

@[simp] theorem Memory.wf_empty (v : Byte) : (Memory.empty v).wf = true := rfl

/-- A write keeps the canonical form. -/
theorem Memory.write_wf {m : Memory} (a : Nat) (v : Byte) (h : m.wf = true) : (m.write a v).wf = true := by
  obtain ⟨hr, hv⟩ := Memory.wf_iff.mp h
  unfold Memory.write
  split
  · exact Memory.wf_iff.mpr ⟨risingCells_eraseCell a hr, fun x hx => hv x (mem_eraseCell hx)⟩
  · refine Memory.wf_iff.mpr ⟨risingCells_insertCell a v hr, fun x hx => ?_⟩
    rcases mem_insertCell hx with rfl | hx
    · assumption
    · exact hv x hx

theorem cellsAbove_cellsOfBytes (fill : Byte) (bytes : List Byte) :
    ∀ {k j : Nat}, j < k → cellsAbove j (cellsOfBytes fill k bytes) := by
  induction bytes with
  | nil => simp [cellsOfBytes, cellsAbove]
  | cons v rest ih =>
    intro k j h
    simp only [cellsOfBytes]
    split
    · exact ih (by omega)
    · simp only [cellsAbove, List.mem_cons, forall_eq_or_imp]
      exact ⟨h, ih (by omega)⟩

theorem risingCells_cellsOfBytes (fill : Byte) (bytes : List Byte) (k : Nat) :
    risingCells (cellsOfBytes fill k bytes) = true := by
  induction bytes generalizing k with
  | nil => rfl
  | cons v rest ih =>
    simp only [cellsOfBytes]
    split
    · exact ih _
    · exact risingCells_cons.mpr ⟨cellsAbove_cellsOfBytes fill rest (by simp), ih _⟩

theorem value_cellsOfBytes (fill : Byte) (bytes : List Byte) (k : Nat) :
    ∀ x ∈ cellsOfBytes fill k bytes, x.2 ≠ fill := by
  induction bytes generalizing k with
  | nil => simp [cellsOfBytes]
  | cons v rest ih =>
    simp only [cellsOfBytes]
    split
    · exact ih _
    · simp only [List.mem_cons, forall_eq_or_imp]
      exact ⟨‹_›, ih _⟩

/-- An array made from bytes is in canonical form. -/
theorem Memory.ofBytes_wf (fill : Byte) (bytes : List Byte) : (Memory.ofBytes fill bytes).wf = true :=
  Memory.wf_iff.mpr ⟨risingCells_cellsOfBytes fill bytes 0, value_cellsOfBytes fill bytes 0⟩

theorem lookupCell_none_of_above {l : List Host.Cell} {a : Nat} (h : ∀ x ∈ l, x.1 ≠ a) : lookupCell l a = none := by
  induction l with
  | nil => rfl
  | cons x rest ih =>
    obtain ⟨k, w⟩ := x
    simp only [List.mem_cons, forall_eq_or_imp] at h
    simp [lookupCell, h.1, ih h.2]

theorem lookupCell_cellsOfBytes (fill : Byte) (bytes : List Byte) :
    ∀ k a, (lookupCell (cellsOfBytes fill k bytes) (k + a)).getD fill = bytes.getD a fill := by
  induction bytes with
  | nil => intro k a; simp [cellsOfBytes, lookupCell]
  | cons v rest ih =>
    intro k a
    have hz : lookupCell (cellsOfBytes fill (k + 1) rest) k = none :=
      lookupCell_none_of_above fun x hx => (cellsAbove_cellsOfBytes fill rest (Nat.lt_succ_self k) x hx).ne'
    cases a with
    | zero =>
      simp only [cellsOfBytes]
      split
      · rename_i hv
        simpa [hz] using hv.symm
      · simp [lookupCell]
    | succ a =>
      have h := ih (k + 1) a
      rw [show k + 1 + a = k + (a + 1) by omega] at h
      simp only [cellsOfBytes]
      split
      · simpa using h
      · simpa [lookupCell] using h

/-- An array made from bytes reads as those bytes, and as its fill beyond them. -/
theorem Memory.read_ofBytes (fill : Byte) (bytes : List Byte) (a : Nat) :
    (Memory.ofBytes fill bytes).read a = bytes.getD a fill := by
  simpa [Memory.ofBytes, Memory.read] using lookupCell_cellsOfBytes fill bytes 0 a

end Sys2Proof.Machine
end

