-- ==== Sys2Proof/Laws/State.lean ====
section
/-! SUPPORT. One lemma per field of `State` per update: what the update's result holds there.  Every one is true by
`rfl`; with them no later proof unfolds a record update. -/

namespace Sys2Proof.Machine

/-! ## The register file replaced -/

@[simp] theorem State.setRegs_regs (s : State) (g : Regs) : (s.setRegs g).regs = g := rfl
@[simp] theorem State.setRegs_ime (s : State) (g : Regs) : (s.setRegs g).ime = s.ime := rfl
@[simp] theorem State.setRegs_imeArmed (s : State) (g : Regs) : (s.setRegs g).imeArmed = s.imeArmed := rfl
@[simp] theorem State.setRegs_halted (s : State) (g : Regs) : (s.setRegs g).halted = s.halted := rfl
@[simp] theorem State.setRegs_stopped (s : State) (g : Regs) : (s.setRegs g).stopped = s.stopped := rfl
@[simp] theorem State.setRegs_haltRepeat (s : State) (g : Regs) : (s.setRegs g).haltRepeat = s.haltRepeat := rfl
@[simp] theorem State.setRegs_counter (s : State) (g : Regs) : (s.setRegs g).counter = s.counter := rfl
@[simp] theorem State.setRegs_doubleSpeed (s : State) (g : Regs) : (s.setRegs g).doubleSpeed = s.doubleSpeed := rfl
@[simp] theorem State.setRegs_fault (s : State) (g : Regs) : (s.setRegs g).fault = s.fault := rfl
@[simp] theorem State.setRegs_running (s : State) (g : Regs) : (s.setRegs g).running = s.running := rfl
@[simp] theorem State.setRegs_runEnded (s : State) (g : Regs) : (s.setRegs g).runEnded = s.runEnded := rfl
@[simp] theorem State.setRegs_gbcHardware (s : State) (g : Regs) : (s.setRegs g).gbcHardware = s.gbcHardware := rfl
@[simp] theorem State.setRegs_cgbMode (s : State) (g : Regs) : (s.setRegs g).cgbMode = s.cgbMode := rfl
@[simp] theorem State.setRegs_cart (s : State) (g : Regs) : (s.setRegs g).cart = s.cart := rfl
@[simp] theorem State.setRegs_mapper (s : State) (g : Regs) : (s.setRegs g).mapper = s.mapper := rfl
@[simp] theorem State.setRegs_rom (s : State) (g : Regs) : (s.setRegs g).rom = s.rom := rfl
@[simp] theorem State.setRegs_cram (s : State) (g : Regs) : (s.setRegs g).cram = s.cram := rfl
@[simp] theorem State.setRegs_vram (s : State) (g : Regs) : (s.setRegs g).vram = s.vram := rfl
@[simp] theorem State.setRegs_wram (s : State) (g : Regs) : (s.setRegs g).wram = s.wram := rfl
@[simp] theorem State.setRegs_oam (s : State) (g : Regs) : (s.setRegs g).oam = s.oam := rfl
@[simp] theorem State.setRegs_io (s : State) (g : Regs) : (s.setRegs g).io = s.io := rfl
@[simp] theorem State.setRegs_wave (s : State) (g : Regs) : (s.setRegs g).wave = s.wave := rfl
@[simp] theorem State.setRegs_hram (s : State) (g : Regs) : (s.setRegs g).hram = s.hram := rfl
@[simp] theorem State.setRegs_ie (s : State) (g : Regs) : (s.setRegs g).ie = s.ie := rfl
@[simp] theorem State.setRegs_bgPal (s : State) (g : Regs) : (s.setRegs g).bgPal = s.bgPal := rfl
@[simp] theorem State.setRegs_objPal (s : State) (g : Regs) : (s.setRegs g).objPal = s.objPal := rfl
@[simp] theorem State.setRegs_timer (s : State) (g : Regs) : (s.setRegs g).timer = s.timer := rfl
@[simp] theorem State.setRegs_serialDeadline (s : State) (g : Regs) : (s.setRegs g).serialDeadline = s.serialDeadline := rfl
@[simp] theorem State.setRegs_hdma (s : State) (g : Regs) : (s.setRegs g).hdma = s.hdma := rfl
@[simp] theorem State.setRegs_ppu (s : State) (g : Regs) : (s.setRegs g).ppu = s.ppu := rfl
@[simp] theorem State.setRegs_apu (s : State) (g : Regs) : (s.setRegs g).apu = s.apu := rfl
@[simp] theorem State.setRegs_host (s : State) (g : Regs) : (s.setRegs g).host = s.host := rfl
@[simp] theorem State.setRegs_params (s : State) (g : Regs) : (s.setRegs g).params = s.params := rfl

/-! ## The counter moved -/

@[simp] theorem State.addCycles_regs (s : State) (n : Nat) : (s.addCycles n).regs = s.regs := rfl
@[simp] theorem State.addCycles_ime (s : State) (n : Nat) : (s.addCycles n).ime = s.ime := rfl
@[simp] theorem State.addCycles_imeArmed (s : State) (n : Nat) : (s.addCycles n).imeArmed = s.imeArmed := rfl
@[simp] theorem State.addCycles_halted (s : State) (n : Nat) : (s.addCycles n).halted = s.halted := rfl
@[simp] theorem State.addCycles_stopped (s : State) (n : Nat) : (s.addCycles n).stopped = s.stopped := rfl
@[simp] theorem State.addCycles_haltRepeat (s : State) (n : Nat) : (s.addCycles n).haltRepeat = s.haltRepeat := rfl
@[simp] theorem State.addCycles_counter (s : State) (n : Nat) : (s.addCycles n).counter = s.counter + n := rfl
@[simp] theorem State.addCycles_doubleSpeed (s : State) (n : Nat) : (s.addCycles n).doubleSpeed = s.doubleSpeed := rfl
@[simp] theorem State.addCycles_fault (s : State) (n : Nat) : (s.addCycles n).fault = s.fault := rfl
@[simp] theorem State.addCycles_running (s : State) (n : Nat) : (s.addCycles n).running = s.running := rfl
@[simp] theorem State.addCycles_runEnded (s : State) (n : Nat) : (s.addCycles n).runEnded = s.runEnded := rfl
@[simp] theorem State.addCycles_gbcHardware (s : State) (n : Nat) : (s.addCycles n).gbcHardware = s.gbcHardware := rfl
@[simp] theorem State.addCycles_cgbMode (s : State) (n : Nat) : (s.addCycles n).cgbMode = s.cgbMode := rfl
@[simp] theorem State.addCycles_cart (s : State) (n : Nat) : (s.addCycles n).cart = s.cart := rfl
@[simp] theorem State.addCycles_mapper (s : State) (n : Nat) : (s.addCycles n).mapper = s.mapper := rfl
@[simp] theorem State.addCycles_rom (s : State) (n : Nat) : (s.addCycles n).rom = s.rom := rfl
@[simp] theorem State.addCycles_cram (s : State) (n : Nat) : (s.addCycles n).cram = s.cram := rfl
@[simp] theorem State.addCycles_vram (s : State) (n : Nat) : (s.addCycles n).vram = s.vram := rfl
@[simp] theorem State.addCycles_wram (s : State) (n : Nat) : (s.addCycles n).wram = s.wram := rfl
@[simp] theorem State.addCycles_oam (s : State) (n : Nat) : (s.addCycles n).oam = s.oam := rfl
@[simp] theorem State.addCycles_io (s : State) (n : Nat) : (s.addCycles n).io = s.io := rfl
@[simp] theorem State.addCycles_wave (s : State) (n : Nat) : (s.addCycles n).wave = s.wave := rfl
@[simp] theorem State.addCycles_hram (s : State) (n : Nat) : (s.addCycles n).hram = s.hram := rfl
@[simp] theorem State.addCycles_ie (s : State) (n : Nat) : (s.addCycles n).ie = s.ie := rfl
@[simp] theorem State.addCycles_bgPal (s : State) (n : Nat) : (s.addCycles n).bgPal = s.bgPal := rfl
@[simp] theorem State.addCycles_objPal (s : State) (n : Nat) : (s.addCycles n).objPal = s.objPal := rfl
@[simp] theorem State.addCycles_timer (s : State) (n : Nat) : (s.addCycles n).timer = s.timer := rfl
@[simp] theorem State.addCycles_serialDeadline (s : State) (n : Nat) : (s.addCycles n).serialDeadline = s.serialDeadline := rfl
@[simp] theorem State.addCycles_hdma (s : State) (n : Nat) : (s.addCycles n).hdma = s.hdma := rfl
@[simp] theorem State.addCycles_ppu (s : State) (n : Nat) : (s.addCycles n).ppu = s.ppu := rfl
@[simp] theorem State.addCycles_apu (s : State) (n : Nat) : (s.addCycles n).apu = s.apu := rfl
@[simp] theorem State.addCycles_host (s : State) (n : Nat) : (s.addCycles n).host = s.host := rfl
@[simp] theorem State.addCycles_params (s : State) (n : Nat) : (s.addCycles n).params = s.params := rfl

/-! ## A call to the audio sink -/

@[simp] theorem State.callSink_regs (s : State) (c : SinkCall) : (s.callSink c).regs = s.regs := rfl
@[simp] theorem State.callSink_ime (s : State) (c : SinkCall) : (s.callSink c).ime = s.ime := rfl
@[simp] theorem State.callSink_imeArmed (s : State) (c : SinkCall) : (s.callSink c).imeArmed = s.imeArmed := rfl
@[simp] theorem State.callSink_halted (s : State) (c : SinkCall) : (s.callSink c).halted = s.halted := rfl
@[simp] theorem State.callSink_stopped (s : State) (c : SinkCall) : (s.callSink c).stopped = s.stopped := rfl
@[simp] theorem State.callSink_haltRepeat (s : State) (c : SinkCall) : (s.callSink c).haltRepeat = s.haltRepeat := rfl
@[simp] theorem State.callSink_counter (s : State) (c : SinkCall) : (s.callSink c).counter = s.counter := rfl
@[simp] theorem State.callSink_doubleSpeed (s : State) (c : SinkCall) : (s.callSink c).doubleSpeed = s.doubleSpeed := rfl
@[simp] theorem State.callSink_fault (s : State) (c : SinkCall) : (s.callSink c).fault = s.fault := rfl
@[simp] theorem State.callSink_running (s : State) (c : SinkCall) : (s.callSink c).running = s.running := rfl
@[simp] theorem State.callSink_runEnded (s : State) (c : SinkCall) : (s.callSink c).runEnded = s.runEnded := rfl
@[simp] theorem State.callSink_gbcHardware (s : State) (c : SinkCall) : (s.callSink c).gbcHardware = s.gbcHardware := rfl
@[simp] theorem State.callSink_cgbMode (s : State) (c : SinkCall) : (s.callSink c).cgbMode = s.cgbMode := rfl
@[simp] theorem State.callSink_cart (s : State) (c : SinkCall) : (s.callSink c).cart = s.cart := rfl
@[simp] theorem State.callSink_mapper (s : State) (c : SinkCall) : (s.callSink c).mapper = s.mapper := rfl
@[simp] theorem State.callSink_rom (s : State) (c : SinkCall) : (s.callSink c).rom = s.rom := rfl
@[simp] theorem State.callSink_cram (s : State) (c : SinkCall) : (s.callSink c).cram = s.cram := rfl
@[simp] theorem State.callSink_vram (s : State) (c : SinkCall) : (s.callSink c).vram = s.vram := rfl
@[simp] theorem State.callSink_wram (s : State) (c : SinkCall) : (s.callSink c).wram = s.wram := rfl
@[simp] theorem State.callSink_oam (s : State) (c : SinkCall) : (s.callSink c).oam = s.oam := rfl
@[simp] theorem State.callSink_io (s : State) (c : SinkCall) : (s.callSink c).io = s.io := rfl
@[simp] theorem State.callSink_wave (s : State) (c : SinkCall) : (s.callSink c).wave = s.wave := rfl
@[simp] theorem State.callSink_hram (s : State) (c : SinkCall) : (s.callSink c).hram = s.hram := rfl
@[simp] theorem State.callSink_ie (s : State) (c : SinkCall) : (s.callSink c).ie = s.ie := rfl
@[simp] theorem State.callSink_bgPal (s : State) (c : SinkCall) : (s.callSink c).bgPal = s.bgPal := rfl
@[simp] theorem State.callSink_objPal (s : State) (c : SinkCall) : (s.callSink c).objPal = s.objPal := rfl
@[simp] theorem State.callSink_timer (s : State) (c : SinkCall) : (s.callSink c).timer = s.timer := rfl
@[simp] theorem State.callSink_serialDeadline (s : State) (c : SinkCall) : (s.callSink c).serialDeadline = s.serialDeadline := rfl
@[simp] theorem State.callSink_hdma (s : State) (c : SinkCall) : (s.callSink c).hdma = s.hdma := rfl
@[simp] theorem State.callSink_ppu (s : State) (c : SinkCall) : (s.callSink c).ppu = s.ppu := rfl
@[simp] theorem State.callSink_apu (s : State) (c : SinkCall) : (s.callSink c).apu = s.apu := rfl
@[simp] theorem State.callSink_host (s : State) (c : SinkCall) :
    (s.callSink c).host = { s.host with sinkCalls := c :: s.host.sinkCalls } := rfl
@[simp] theorem State.callSink_params (s : State) (c : SinkCall) : (s.callSink c).params = s.params := rfl

/-! ## The program counter moved past an instruction -/

@[simp] theorem State.advance_regs (s : State) (n : Nat) : (s.advance n).regs = { s.regs with pc := s.regs.pc + BitVec.ofNat 16 (if s.haltRepeat then n - 1 else n) } := rfl
@[simp] theorem State.advance_ime (s : State) (n : Nat) : (s.advance n).ime = s.ime := rfl
@[simp] theorem State.advance_imeArmed (s : State) (n : Nat) : (s.advance n).imeArmed = s.imeArmed := rfl
@[simp] theorem State.advance_halted (s : State) (n : Nat) : (s.advance n).halted = s.halted := rfl
@[simp] theorem State.advance_stopped (s : State) (n : Nat) : (s.advance n).stopped = s.stopped := rfl
@[simp] theorem State.advance_haltRepeat (s : State) (n : Nat) : (s.advance n).haltRepeat = false := rfl
@[simp] theorem State.advance_counter (s : State) (n : Nat) : (s.advance n).counter = s.counter := rfl
@[simp] theorem State.advance_doubleSpeed (s : State) (n : Nat) : (s.advance n).doubleSpeed = s.doubleSpeed := rfl
@[simp] theorem State.advance_fault (s : State) (n : Nat) : (s.advance n).fault = s.fault := rfl
@[simp] theorem State.advance_running (s : State) (n : Nat) : (s.advance n).running = s.running := rfl
@[simp] theorem State.advance_runEnded (s : State) (n : Nat) : (s.advance n).runEnded = s.runEnded := rfl
@[simp] theorem State.advance_gbcHardware (s : State) (n : Nat) : (s.advance n).gbcHardware = s.gbcHardware := rfl
@[simp] theorem State.advance_cgbMode (s : State) (n : Nat) : (s.advance n).cgbMode = s.cgbMode := rfl
@[simp] theorem State.advance_cart (s : State) (n : Nat) : (s.advance n).cart = s.cart := rfl
@[simp] theorem State.advance_mapper (s : State) (n : Nat) : (s.advance n).mapper = s.mapper := rfl
@[simp] theorem State.advance_rom (s : State) (n : Nat) : (s.advance n).rom = s.rom := rfl
@[simp] theorem State.advance_cram (s : State) (n : Nat) : (s.advance n).cram = s.cram := rfl
@[simp] theorem State.advance_vram (s : State) (n : Nat) : (s.advance n).vram = s.vram := rfl
@[simp] theorem State.advance_wram (s : State) (n : Nat) : (s.advance n).wram = s.wram := rfl
@[simp] theorem State.advance_oam (s : State) (n : Nat) : (s.advance n).oam = s.oam := rfl
@[simp] theorem State.advance_io (s : State) (n : Nat) : (s.advance n).io = s.io := rfl
@[simp] theorem State.advance_wave (s : State) (n : Nat) : (s.advance n).wave = s.wave := rfl
@[simp] theorem State.advance_hram (s : State) (n : Nat) : (s.advance n).hram = s.hram := rfl
@[simp] theorem State.advance_ie (s : State) (n : Nat) : (s.advance n).ie = s.ie := rfl
@[simp] theorem State.advance_bgPal (s : State) (n : Nat) : (s.advance n).bgPal = s.bgPal := rfl
@[simp] theorem State.advance_objPal (s : State) (n : Nat) : (s.advance n).objPal = s.objPal := rfl
@[simp] theorem State.advance_timer (s : State) (n : Nat) : (s.advance n).timer = s.timer := rfl
@[simp] theorem State.advance_serialDeadline (s : State) (n : Nat) : (s.advance n).serialDeadline = s.serialDeadline := rfl
@[simp] theorem State.advance_hdma (s : State) (n : Nat) : (s.advance n).hdma = s.hdma := rfl
@[simp] theorem State.advance_ppu (s : State) (n : Nat) : (s.advance n).ppu = s.ppu := rfl
@[simp] theorem State.advance_apu (s : State) (n : Nat) : (s.advance n).apu = s.apu := rfl
@[simp] theorem State.advance_host (s : State) (n : Nat) : (s.advance n).host = s.host := rfl
@[simp] theorem State.advance_params (s : State) (n : Nat) : (s.advance n).params = s.params := rfl

/-! ## A stored I/O byte replaced -/

@[simp] theorem State.setIo_regs (s : State) (k : Nat) (v : Byte) : (s.setIo k v).regs = s.regs := rfl
@[simp] theorem State.setIo_ime (s : State) (k : Nat) (v : Byte) : (s.setIo k v).ime = s.ime := rfl
@[simp] theorem State.setIo_imeArmed (s : State) (k : Nat) (v : Byte) : (s.setIo k v).imeArmed = s.imeArmed := rfl
@[simp] theorem State.setIo_halted (s : State) (k : Nat) (v : Byte) : (s.setIo k v).halted = s.halted := rfl
@[simp] theorem State.setIo_stopped (s : State) (k : Nat) (v : Byte) : (s.setIo k v).stopped = s.stopped := rfl
@[simp] theorem State.setIo_haltRepeat (s : State) (k : Nat) (v : Byte) : (s.setIo k v).haltRepeat = s.haltRepeat := rfl
@[simp] theorem State.setIo_counter (s : State) (k : Nat) (v : Byte) : (s.setIo k v).counter = s.counter := rfl
@[simp] theorem State.setIo_doubleSpeed (s : State) (k : Nat) (v : Byte) : (s.setIo k v).doubleSpeed = s.doubleSpeed := rfl
@[simp] theorem State.setIo_fault (s : State) (k : Nat) (v : Byte) : (s.setIo k v).fault = s.fault := rfl
@[simp] theorem State.setIo_running (s : State) (k : Nat) (v : Byte) : (s.setIo k v).running = s.running := rfl
@[simp] theorem State.setIo_runEnded (s : State) (k : Nat) (v : Byte) : (s.setIo k v).runEnded = s.runEnded := rfl
@[simp] theorem State.setIo_gbcHardware (s : State) (k : Nat) (v : Byte) : (s.setIo k v).gbcHardware = s.gbcHardware := rfl
@[simp] theorem State.setIo_cgbMode (s : State) (k : Nat) (v : Byte) : (s.setIo k v).cgbMode = s.cgbMode := rfl
@[simp] theorem State.setIo_cart (s : State) (k : Nat) (v : Byte) : (s.setIo k v).cart = s.cart := rfl
@[simp] theorem State.setIo_mapper (s : State) (k : Nat) (v : Byte) : (s.setIo k v).mapper = s.mapper := rfl
@[simp] theorem State.setIo_rom (s : State) (k : Nat) (v : Byte) : (s.setIo k v).rom = s.rom := rfl
@[simp] theorem State.setIo_cram (s : State) (k : Nat) (v : Byte) : (s.setIo k v).cram = s.cram := rfl
@[simp] theorem State.setIo_vram (s : State) (k : Nat) (v : Byte) : (s.setIo k v).vram = s.vram := rfl
@[simp] theorem State.setIo_wram (s : State) (k : Nat) (v : Byte) : (s.setIo k v).wram = s.wram := rfl
@[simp] theorem State.setIo_oam (s : State) (k : Nat) (v : Byte) : (s.setIo k v).oam = s.oam := rfl
@[simp] theorem State.setIo_io (s : State) (k : Nat) (v : Byte) : (s.setIo k v).io = s.io.write k v := rfl
@[simp] theorem State.setIo_wave (s : State) (k : Nat) (v : Byte) : (s.setIo k v).wave = s.wave := rfl
@[simp] theorem State.setIo_hram (s : State) (k : Nat) (v : Byte) : (s.setIo k v).hram = s.hram := rfl
@[simp] theorem State.setIo_ie (s : State) (k : Nat) (v : Byte) : (s.setIo k v).ie = s.ie := rfl
@[simp] theorem State.setIo_bgPal (s : State) (k : Nat) (v : Byte) : (s.setIo k v).bgPal = s.bgPal := rfl
@[simp] theorem State.setIo_objPal (s : State) (k : Nat) (v : Byte) : (s.setIo k v).objPal = s.objPal := rfl
@[simp] theorem State.setIo_timer (s : State) (k : Nat) (v : Byte) : (s.setIo k v).timer = s.timer := rfl
@[simp] theorem State.setIo_serialDeadline (s : State) (k : Nat) (v : Byte) : (s.setIo k v).serialDeadline = s.serialDeadline := rfl
@[simp] theorem State.setIo_hdma (s : State) (k : Nat) (v : Byte) : (s.setIo k v).hdma = s.hdma := rfl
@[simp] theorem State.setIo_ppu (s : State) (k : Nat) (v : Byte) : (s.setIo k v).ppu = s.ppu := rfl
@[simp] theorem State.setIo_apu (s : State) (k : Nat) (v : Byte) : (s.setIo k v).apu = s.apu := rfl
@[simp] theorem State.setIo_host (s : State) (k : Nat) (v : Byte) : (s.setIo k v).host = s.host := rfl
@[simp] theorem State.setIo_params (s : State) (k : Nat) (v : Byte) : (s.setIo k v).params = s.params := rfl

/-! ## An interrupt requested -/

@[simp] theorem requestIrq_regs (s : State) (k : Nat) : (requestIrq s k).regs = s.regs := rfl
@[simp] theorem requestIrq_ime (s : State) (k : Nat) : (requestIrq s k).ime = s.ime := rfl
@[simp] theorem requestIrq_imeArmed (s : State) (k : Nat) : (requestIrq s k).imeArmed = s.imeArmed := rfl
@[simp] theorem requestIrq_halted (s : State) (k : Nat) : (requestIrq s k).halted = s.halted := rfl
@[simp] theorem requestIrq_stopped (s : State) (k : Nat) : (requestIrq s k).stopped = s.stopped := rfl
@[simp] theorem requestIrq_haltRepeat (s : State) (k : Nat) : (requestIrq s k).haltRepeat = s.haltRepeat := rfl
@[simp] theorem requestIrq_counter (s : State) (k : Nat) : (requestIrq s k).counter = s.counter := rfl
@[simp] theorem requestIrq_doubleSpeed (s : State) (k : Nat) : (requestIrq s k).doubleSpeed = s.doubleSpeed := rfl
@[simp] theorem requestIrq_fault (s : State) (k : Nat) : (requestIrq s k).fault = s.fault := rfl
@[simp] theorem requestIrq_running (s : State) (k : Nat) : (requestIrq s k).running = s.running := rfl
@[simp] theorem requestIrq_runEnded (s : State) (k : Nat) : (requestIrq s k).runEnded = s.runEnded := rfl
@[simp] theorem requestIrq_gbcHardware (s : State) (k : Nat) : (requestIrq s k).gbcHardware = s.gbcHardware := rfl
@[simp] theorem requestIrq_cgbMode (s : State) (k : Nat) : (requestIrq s k).cgbMode = s.cgbMode := rfl
@[simp] theorem requestIrq_cart (s : State) (k : Nat) : (requestIrq s k).cart = s.cart := rfl
@[simp] theorem requestIrq_mapper (s : State) (k : Nat) : (requestIrq s k).mapper = s.mapper := rfl
@[simp] theorem requestIrq_rom (s : State) (k : Nat) : (requestIrq s k).rom = s.rom := rfl
@[simp] theorem requestIrq_cram (s : State) (k : Nat) : (requestIrq s k).cram = s.cram := rfl
@[simp] theorem requestIrq_vram (s : State) (k : Nat) : (requestIrq s k).vram = s.vram := rfl
@[simp] theorem requestIrq_wram (s : State) (k : Nat) : (requestIrq s k).wram = s.wram := rfl
@[simp] theorem requestIrq_oam (s : State) (k : Nat) : (requestIrq s k).oam = s.oam := rfl
@[simp] theorem requestIrq_io (s : State) (k : Nat) : (requestIrq s k).io = s.io.write 0x0F (setBit (s.ioByte 0x0F) k true) := rfl
@[simp] theorem requestIrq_wave (s : State) (k : Nat) : (requestIrq s k).wave = s.wave := rfl
@[simp] theorem requestIrq_hram (s : State) (k : Nat) : (requestIrq s k).hram = s.hram := rfl
@[simp] theorem requestIrq_ie (s : State) (k : Nat) : (requestIrq s k).ie = s.ie := rfl
@[simp] theorem requestIrq_bgPal (s : State) (k : Nat) : (requestIrq s k).bgPal = s.bgPal := rfl
@[simp] theorem requestIrq_objPal (s : State) (k : Nat) : (requestIrq s k).objPal = s.objPal := rfl
@[simp] theorem requestIrq_timer (s : State) (k : Nat) : (requestIrq s k).timer = s.timer := rfl
@[simp] theorem requestIrq_serialDeadline (s : State) (k : Nat) : (requestIrq s k).serialDeadline = s.serialDeadline := rfl
@[simp] theorem requestIrq_hdma (s : State) (k : Nat) : (requestIrq s k).hdma = s.hdma := rfl
@[simp] theorem requestIrq_ppu (s : State) (k : Nat) : (requestIrq s k).ppu = s.ppu := rfl
@[simp] theorem requestIrq_apu (s : State) (k : Nat) : (requestIrq s k).apu = s.apu := rfl
@[simp] theorem requestIrq_host (s : State) (k : Nat) : (requestIrq s k).host = s.host := rfl
@[simp] theorem requestIrq_params (s : State) (k : Nat) : (requestIrq s k).params = s.params := rfl

/-! ## The narrower register updates, as `setRegs` -/

@[simp] theorem State.set8_eq (s : State) (r : R8) (v : Byte) : s.set8 r v = s.setRegs (s.regs.set8 r v) := rfl

@[simp] theorem State.setPc_eq (s : State) (v : Word) : s.setPc v = s.setRegs { s.regs with pc := v } := rfl

@[simp] theorem State.setSp_eq (s : State) (v : Word) : s.setSp v = s.setRegs { s.regs with sp := v } := rfl

@[simp] theorem State.setFlags_eq (s : State) (w : Flags) : s.setFlags w = s.setRegs (s.regs.setF w.pack) := rfl

@[simp] theorem State.setRegs_setRegs (s : State) (g h : Regs) : (s.setRegs g).setRegs h = s.setRegs h := rfl

@[simp] theorem State.setRegs_self (s : State) : s.setRegs s.regs = s := rfl

/-! ## Registers -/

@[simp] theorem Regs.set8_pc (g : Regs) (r : R8) (v : Byte) : (g.set8 r v).pc = g.pc := by cases r <;> rfl

@[simp] theorem Regs.set8_sp (g : Regs) (r : R8) (v : Byte) : (g.set8 r v).sp = g.sp := by cases r <;> rfl

@[simp] theorem Regs.set8_f (g : Regs) (r : R8) (v : Byte) : (g.set8 r v).f = g.f := by cases r <;> rfl

@[simp] theorem Regs.get8_set8_same (g : Regs) (r : R8) (v : Byte) : (g.set8 r v).get8 r = v := by cases r <;> rfl

theorem Regs.get8_set8_other (g : Regs) {r q : R8} (v : Byte) (h : q ≠ r) : (g.set8 r v).get8 q = g.get8 q := by
  cases r <;> cases q <;> first | rfl | exact absurd rfl h

@[simp] theorem Regs.setF_f (g : Regs) (v : Byte) : (g.setF v).f = v &&& 0xF0 := rfl

@[simp] theorem Regs.setF_pc (g : Regs) (v : Byte) : (g.setF v).pc = g.pc := rfl

@[simp] theorem Regs.setF_sp (g : Regs) (v : Byte) : (g.setF v).sp = g.sp := rfl

@[simp] theorem Regs.get8_setF (g : Regs) (v : Byte) (r : R8) : (g.setF v).get8 r = g.get8 r := by cases r <;> rfl

/-- The bytes of a word, joined, are the word. -/
@[simp] theorem joinWord_bytes (v : Word) : joinWord (highByte v) (lowByte v) = v := by
  simp only [joinWord, highByte, lowByte]
  ext i hi
  simp only [BitVec.getElem_append, BitVec.getElem_setWidth, BitVec.getLsbD_ushiftRight]
  split
  · exact BitVec.getLsbD_eq_getElem hi
  · rw [show 8 + (i - 8) = i by omega]
    exact BitVec.getLsbD_eq_getElem hi

@[simp] theorem highByte_joinWord (h l : Byte) : highByte (joinWord h l) = h := by
  ext i hi
  have hb : (h ++ l).getLsbD (8 + i) = h[i] := by
    refine (BitVec.getLsbD_append (x := h) (y := l) (i := 8 + i)).trans ?_
    simp [hi]
  simpa [highByte, joinWord] using hb

@[simp] theorem lowByte_joinWord (h l : Byte) : lowByte (joinWord h l) = l := by
  ext i hi
  have hb : (h ++ l).getLsbD i = l[i] := by
    refine (BitVec.getLsbD_append (x := h) (y := l) (i := i)).trans ?_
    simp [hi]
  simpa [lowByte, joinWord] using hb

@[simp] theorem Regs.hl_setHl (g : Regs) (v : Word) : (g.setHl v).hl = v := joinWord_bytes v

theorem Regs.getRp_setRp (g : Regs) (r : Rp) (v : Word) : (g.setRp r v).getRp r = v := by
  cases r <;> first | rfl | exact joinWord_bytes v

/-- Unpacking packed flags gives them back. -/
@[simp] theorem flagsOf_pack (w : Flags) : flagsOf (w.pack &&& 0xF0) = w := by
  obtain ⟨z, n, h, c⟩ := w
  cases z <;> cases n <;> cases h <;> cases c <;> rfl

/-- Packing flags leaves the low nibble of F clear (R55). -/
@[simp] theorem pack_low (w : Flags) : w.pack &&& 0x0F = 0 := by
  obtain ⟨z, n, h, c⟩ := w
  cases z <;> cases n <;> cases h <;> cases c <;> rfl

end Sys2Proof.Machine
end

