-- ==== Sys2Proof/Laws/Bus.lean ====
section
/-! SUPPORT. What one bus write can do: it never touches the CPU registers, the interrupt and parking state, the
counter, the ROM, the cartridge's parameters, the host's side or the OPEN parameters, and it keeps every byte
array in canonical form.  One lemma per operation `memWrite` is built from. -/

namespace Sys2Proof.Machine

/-- `t` differs from `s` only in what a bus write may change. -/
structure BusKeeps (s t : State) : Prop where
  regs : t.regs = s.regs
  ime : t.ime = s.ime
  imeArmed : t.imeArmed = s.imeArmed
  halted : t.halted = s.halted
  stopped : t.stopped = s.stopped
  haltRepeat : t.haltRepeat = s.haltRepeat
  counter : t.counter = s.counter
  doubleSpeed : t.doubleSpeed = s.doubleSpeed
  fault : t.fault = s.fault
  running : t.running = s.running
  runEnded : t.runEnded = s.runEnded
  gbcHardware : t.gbcHardware = s.gbcHardware
  cgbMode : t.cgbMode = s.cgbMode
  cart : t.cart = s.cart
  rom : t.rom = s.rom
  host : t.host = s.host
  params : t.params = s.params

theorem BusKeeps.refl (s : State) : BusKeeps s s := by constructor <;> rfl

theorem BusKeeps.trans {s t u : State} (h : BusKeeps s t) (k : BusKeeps t u) : BusKeeps s u := by
  constructor
  · exact k.regs.trans h.regs
  · exact k.ime.trans h.ime
  · exact k.imeArmed.trans h.imeArmed
  · exact k.halted.trans h.halted
  · exact k.stopped.trans h.stopped
  · exact k.haltRepeat.trans h.haltRepeat
  · exact k.counter.trans h.counter
  · exact k.doubleSpeed.trans h.doubleSpeed
  · exact k.fault.trans h.fault
  · exact k.running.trans h.running
  · exact k.runEnded.trans h.runEnded
  · exact k.gbcHardware.trans h.gbcHardware
  · exact k.cgbMode.trans h.cgbMode
  · exact k.cart.trans h.cart
  · exact k.rom.trans h.rom
  · exact k.host.trans h.host
  · exact k.params.trans h.params

/-! ## Cartridge -/

theorem rtcSync_keeps (s : State) : BusKeeps s (rtcSync s) := by constructor <;> rfl

theorem rtcWrite_keeps (s : State) (j : Nat) (v : Byte) : BusKeeps s (rtcWrite s j v) := by constructor <;> rfl

theorem cartRamWrite_keeps (s : State) (off : Nat) (v : Byte) : BusKeeps s (cartRamWrite s off v) := by
  unfold cartRamWrite
  split
  · exact .refl s
  · constructor <;> rfl
  · constructor <;> rfl
  · exact rtcWrite_keeps ..

theorem mbc3Latch_keeps (s : State) (v : Byte) : BusKeeps s (mbc3Latch s v) := by
  unfold mbc3Latch
  dsimp only
  split <;> constructor <;> rfl

theorem mbcWrite_keeps (s : State) (addr : Nat) (v : Byte) : BusKeeps s (mbcWrite s addr v) := by
  unfold mbcWrite
  split
  · exact .refl s
  · constructor <;> rfl
  · constructor <;> rfl
  · split
    · constructor <;> rfl
    · exact mbc3Latch_keeps ..
  · constructor <;> rfl

/-! ## Devices -/

theorem setIo_keeps (s : State) (k : Nat) (v : Byte) : BusKeeps s (s.setIo k v) := by constructor <;> rfl

theorem requestIrq_keeps (s : State) (k : Nat) : BusKeeps s (requestIrq s k) := setIo_keeps ..

theorem requestIrqIf_keeps (s : State) (b : Bool) (k : Nat) : BusKeeps s (requestIrqIf s b k) := by
  unfold requestIrqIf
  split
  · exact requestIrq_keeps s k
  · exact .refl s

theorem writeSc_keeps (s : State) (v : Byte) : BusKeeps s (writeSc s v) := by constructor <;> rfl

theorem resetDiv_keeps (s : State) : BusKeeps s (resetDiv s) := by constructor <;> rfl

theorem writeTima_keeps (s : State) (v : Byte) : BusKeeps s (writeTima s v) := by
  unfold writeTima
  dsimp only
  split <;> constructor <;> rfl

theorem writeTac_keeps (s : State) (v : Byte) : BusKeeps s (writeTac s v) := by constructor <;> rfl

theorem trigger1_keeps (s : State) : BusKeeps s (trigger1 s) := by constructor <;> rfl

theorem trigger2_keeps (s : State) : BusKeeps s (trigger2 s) := by constructor <;> rfl

theorem trigger3_keeps (s : State) : BusKeeps s (trigger3 s) := by constructor <;> rfl

theorem trigger4_keeps (s : State) : BusKeeps s (trigger4 s) := by constructor <;> rfl

theorem apuReplaced_keeps (s : State) (a : Apu) : BusKeeps s { s with apu := a } := by constructor <;> rfl

theorem soundEffect_keeps (s : State) (k : Nat) (v : Byte) : BusKeeps s (soundEffect s k v) := by
  unfold soundEffect
  dsimp only
  split
  · exact apuReplaced_keeps ..
  · exact apuReplaced_keeps ..
  · split
    · exact (apuReplaced_keeps ..).trans (trigger1_keeps _)
    · exact apuReplaced_keeps ..
  · exact apuReplaced_keeps ..
  · exact apuReplaced_keeps ..
  · split
    · exact (apuReplaced_keeps ..).trans (trigger2_keeps _)
    · exact apuReplaced_keeps ..
  · exact apuReplaced_keeps ..
  · exact apuReplaced_keeps ..
  · split
    · exact (apuReplaced_keeps ..).trans (trigger3_keeps _)
    · exact apuReplaced_keeps ..
  · exact apuReplaced_keeps ..
  · exact apuReplaced_keeps ..
  · split
    · exact (apuReplaced_keeps ..).trans (trigger4_keeps _)
    · exact apuReplaced_keeps ..
  · exact .refl s

theorem writeSound_keeps (s : State) (k : Nat) (v : Byte) : BusKeeps s (writeSound s k v) := by
  unfold writeSound
  split
  · exact (setIo_keeps s k v).trans (soundEffect_keeps _ k v)
  · exact .refl s

theorem writeNr52_keeps (s : State) (v : Byte) : BusKeeps s (writeNr52 s v) := by
  unfold writeNr52
  dsimp only
  split <;> constructor <;> rfl

theorem lycCheck_keeps (s : State) : BusKeeps s (lycCheck s) := requestIrqIf_keeps ..

theorem writeLcdc_keeps (s : State) (v : Byte) : BusKeeps s (writeLcdc s v) := by
  unfold writeLcdc
  dsimp only
  split
  · constructor <;> rfl
  · split <;> constructor <;> rfl

theorem writeStat_keeps (s : State) (v : Byte) : BusKeeps s (writeStat s v) := setIo_keeps ..

theorem writeLyc_keeps (s : State) (v : Byte) : BusKeeps s (writeLyc s v) :=
  (setIo_keeps s 0x45 v).trans (lycCheck_keeps _)

theorem oamDma_keeps (v : Byte) (n : Nat) (s : State) : BusKeeps s (oamDma v n s) := by
  induction n with
  | zero => exact .refl s
  | succ n ih => exact ih.trans (by constructor <;> rfl)

theorem hdmaCopy_keeps (n : Nat) (s : State) : BusKeeps s (hdmaCopy n s) := by
  induction n with
  | zero => exact .refl s
  | succ n ih => exact ih.trans (by constructor <;> rfl)

theorem hdmaBlock_keeps (s : State) : BusKeeps s (hdmaBlock s) := by
  refine (hdmaCopy_keeps 16 s).trans ?_
  unfold hdmaBlock
  generalize hdmaCopy 16 s = t
  constructor <;> rfl

theorem hdmaBlocks_keeps (n : Nat) (s : State) : BusKeeps s (hdmaBlocks n s) := by
  induction n generalizing s with
  | zero => exact .refl s
  | succ n ih => exact (hdmaBlock_keeps s).trans (ih _)

theorem writeHdma5_keeps (s : State) (v : Byte) : BusKeeps s (writeHdma5 s v) := by
  unfold writeHdma5
  dsimp only
  split
  · constructor <;> rfl
  · split
    · refine (hdmaBlocks_keeps (field v 6 0 + 1) s).trans ?_
      generalize hdmaBlocks (field v 6 0 + 1) s = t
      constructor <;> rfl
    · constructor <;> rfl

theorem writeHdmaSrc_keeps (s : State) (k : Nat) (v : Byte) : BusKeeps s (writeHdmaSrc s k v) := by
  unfold writeHdmaSrc
  dsimp only
  split <;> constructor <;> rfl

theorem writeHdmaDst_keeps (s : State) (k : Nat) (v : Byte) : BusKeeps s (writeHdmaDst s k v) := by
  constructor <;> rfl

theorem writeBcpd_keeps (s : State) (v : Byte) : BusKeeps s (writeBcpd s v) := by constructor <;> rfl

theorem writeOcpd_keeps (s : State) (v : Byte) : BusKeeps s (writeOcpd s v) := by constructor <;> rfl

/-! ## The bus -/

theorem ioWriteReg_keeps (s : State) (k : Nat) (v : Byte) : BusKeeps s (ioWriteReg s k v) := by
  unfold ioWriteReg
  split
  · exact setIo_keeps ..
  · exact writeSc_keeps ..
  · exact resetDiv_keeps ..
  · exact writeTima_keeps ..
  · exact writeTac_keeps ..
  · exact writeNr52_keeps ..
  · exact writeLcdc_keeps ..
  · exact writeStat_keeps ..
  · exact .refl s
  · exact writeLyc_keeps ..
  · exact (setIo_keeps s 0x46 v).trans (oamDma_keeps v 160 _)
  · exact writeHdmaSrc_keeps ..
  · exact writeHdmaSrc_keeps ..
  · exact writeHdmaDst_keeps ..
  · exact writeHdmaDst_keeps ..
  · exact writeHdma5_keeps ..
  · exact writeBcpd_keeps ..
  · exact writeOcpd_keeps ..
  · split
    · exact writeSound_keeps ..
    · split
      · constructor <;> rfl
      · exact setIo_keeps ..

theorem ioWrite_keeps (s : State) (k : Nat) (v : Byte) : BusKeeps s (ioWrite s k v) := by
  unfold ioWrite
  split
  · split
    · exact .refl s
    · split
      · exact writeSound_keeps ..
      · exact setIo_keeps ..
  · exact ioWriteReg_keeps ..

/-- A bus write changes nothing outside the bus. -/
theorem memWrite_keeps (s : State) (addr : Word) (v : Byte) : BusKeeps s (memWrite s addr v) := by
  unfold memWrite writePlace
  split
  · exact mbcWrite_keeps ..
  · constructor <;> rfl
  · exact cartRamWrite_keeps ..
  · constructor <;> rfl
  · constructor <;> rfl
  · exact ioWrite_keeps ..
  · constructor <;> rfl
  · constructor <;> rfl

@[simp] theorem memWrite_regs (s : State) (addr : Word) (v : Byte) : (memWrite s addr v).regs = s.regs :=
  (memWrite_keeps s addr v).regs

@[simp] theorem memWrite_counter (s : State) (addr : Word) (v : Byte) : (memWrite s addr v).counter = s.counter :=
  (memWrite_keeps s addr v).counter

@[simp] theorem memWrite_ime (s : State) (addr : Word) (v : Byte) : (memWrite s addr v).ime = s.ime :=
  (memWrite_keeps s addr v).ime

@[simp] theorem memWrite_imeArmed (s : State) (addr : Word) (v : Byte) :
    (memWrite s addr v).imeArmed = s.imeArmed :=
  (memWrite_keeps s addr v).imeArmed

@[simp] theorem memWrite_fault (s : State) (addr : Word) (v : Byte) : (memWrite s addr v).fault = s.fault :=
  (memWrite_keeps s addr v).fault

@[simp] theorem memWrite_running (s : State) (addr : Word) (v : Byte) : (memWrite s addr v).running = s.running :=
  (memWrite_keeps s addr v).running

/-! ## The stack -/

/-- What a byte pushed leaves: SP one down, the byte written there. -/
theorem push8_eq (s : State) (v : Byte) : push8 s v = memWrite (s.setSp (s.regs.sp - 1)) (s.regs.sp - 1) v := rfl

@[simp] theorem push8_sp (s : State) (v : Byte) : (push8 s v).regs.sp = s.regs.sp - 1 := by simp [push8]

@[simp] theorem push16_sp (s : State) (v : Word) : (push16 s v).regs.sp = s.regs.sp - 2 := by
  simp only [push16, push8_sp]
  bv_omega

@[simp] theorem push16_pc (s : State) (v : Word) : (push16 s v).regs.pc = s.regs.pc := by simp [push16, push8]

@[simp] theorem pop16_sp (s : State) : (pop16 s).2.regs.sp = s.regs.sp + 2 := rfl

@[simp] theorem pop16_word (s : State) : (pop16 s).1 = joinWord (memRead s (s.regs.sp + 1)) (memRead s s.regs.sp) := rfl

/-! ## Reading -/

/-- No bus read depends on the CPU's registers. -/
@[simp] theorem memRead_setRegs (s : State) (g : Regs) (addr : Word) : memRead (s.setRegs g) addr = memRead s addr := rfl

/-- The three bytes a fetch supplies always decode. -/
theorem fetchBytes_length (s : State) : (fetchBytes s).length = 3 := by
  unfold fetchBytes
  dsimp only
  split <;> rfl

end Sys2Proof.Machine
end

