-- ==== Sys2Proof/Laws/Canonical.lean ====
section
/-! SUPPORT. Every memory operation keeps every byte array in its canonical form: one lemma per operation of the bus, the
devices and the cartridge. -/

namespace Sys2Proof.Machine

variable {s : State}

/-! ## The cartridge and the devices -/

theorem MemoryInv.setIo (h : MemoryInv s) (k : Nat) (v : Byte) : MemoryInv (s.setIo k v) :=
  { h with io := Memory.write_wf k v h.io }

theorem MemoryInv.requestIrq (h : MemoryInv s) (k : Nat) : MemoryInv (requestIrq s k) := h.setIo ..

theorem MemoryInv.requestIrqIf (h : MemoryInv s) (b : Bool) (k : Nat) : MemoryInv (requestIrqIf s b k) := by
  unfold Machine.requestIrqIf
  split
  · exact h.requestIrq k
  · exact h

theorem MemoryInv.setApu (h : MemoryInv s) (a : Apu) : MemoryInv { s with apu := a } := { h with }

theorem MemoryInv.setPpu (h : MemoryInv s) (p : Ppu) : MemoryInv { s with ppu := p } := { h with }

theorem MemoryInv.setMapper (h : MemoryInv s) (m : Mapper) : MemoryInv { s with mapper := m } := { h with }

theorem MemoryInv.cartRamWrite (h : MemoryInv s) (off : Nat) (v : Byte) : MemoryInv (cartRamWrite s off v) := by
  unfold Machine.cartRamWrite
  split
  · exact h
  · exact { h with cram := Memory.write_wf _ _ h.cram }
  · exact { h with cram := Memory.write_wf _ _ h.cram }
  · exact h.setMapper _

theorem MemoryInv.mbcWrite (h : MemoryInv s) (addr : Nat) (v : Byte) : MemoryInv (mbcWrite s addr v) := by
  unfold Machine.mbcWrite
  split
  · exact h
  · exact h.setMapper _
  · exact h.setMapper _
  · split
    · exact h.setMapper _
    · unfold mbc3Latch
      dsimp only
      split
      · exact h.setMapper _
      · exact h.setMapper _
  · exact h.setMapper _

theorem MemoryInv.soundEffect (h : MemoryInv s) (k : Nat) (v : Byte) : MemoryInv (soundEffect s k v) := by
  unfold Machine.soundEffect trigger1 trigger2 trigger3 trigger4
  dsimp only
  repeat' split
  all_goals exact h.setApu _

theorem MemoryInv.writeSound (h : MemoryInv s) (k : Nat) (v : Byte) : MemoryInv (writeSound s k v) := by
  unfold Machine.writeSound
  split
  · exact (h.setIo k v).soundEffect k v
  · exact h

theorem clearSoundRegs_wf (n : Nat) {m : Memory} (h : m.wf = true) : (clearSoundRegs n m).wf = true := by
  induction n with
  | zero => exact h
  | succ n ih =>
    unfold clearSoundRegs
    dsimp only
    split
    · exact ih
    · exact Memory.write_wf _ _ ih

theorem MemoryInv.writeNr52 (h : MemoryInv s) (v : Byte) : MemoryInv (writeNr52 s v) := by
  unfold Machine.writeNr52
  dsimp only
  split
  · have hio := clearSoundRegs_wf 0x16 (h.setIo 0x26 (setBit (s.ioByte 0x26) 7 (bit v 7))).io
    generalize clearSoundRegs 0x16 _ = m at hio ⊢
    exact { h with io := hio }
  · exact h.setIo ..

theorem MemoryInv.writeLcdc (h : MemoryInv s) (v : Byte) : MemoryInv (writeLcdc s v) := by
  unfold Machine.writeLcdc
  dsimp only
  repeat' split
  · exact (h.setIo 0x40 v).setPpu _
  · exact (h.setIo 0x40 v).setPpu _
  · exact h.setIo 0x40 v

theorem MemoryInv.oamDma (h : MemoryInv s) (v : Byte) (n : Nat) : MemoryInv (oamDma v n s) := by
  induction n with
  | zero => exact h
  | succ n ih => exact { ih with oam := Memory.write_wf _ _ ih.oam }

theorem MemoryInv.hdmaCopy (h : MemoryInv s) (n : Nat) : MemoryInv (hdmaCopy n s) := by
  induction n with
  | zero => exact h
  | succ n ih => exact { ih with vram := Memory.write_wf _ _ ih.vram }

theorem MemoryInv.setHdma (h : MemoryInv s) (d : Hdma) : MemoryInv { s with hdma := d } := { h with }

theorem MemoryInv.hdmaBlock (h : MemoryInv s) : MemoryInv (hdmaBlock s) := (h.hdmaCopy 16).setHdma _

theorem MemoryInv.hdmaBlocks (h : MemoryInv s) (n : Nat) : MemoryInv (hdmaBlocks n s) := by
  induction n generalizing s with
  | zero => exact h
  | succ n ih => exact ih h.hdmaBlock

theorem MemoryInv.writeHdma5 (h : MemoryInv s) (v : Byte) : MemoryInv (writeHdma5 s v) := by
  unfold Machine.writeHdma5
  dsimp only
  repeat' split
  · exact h.setHdma _
  · exact (h.hdmaBlocks _).setHdma _
  · exact h.setHdma _

theorem MemoryInv.writeHdmaSrc (h : MemoryInv s) (k : Nat) (v : Byte) : MemoryInv (writeHdmaSrc s k v) := by
  unfold Machine.writeHdmaSrc
  dsimp only
  split
  · exact h.setIo k v
  · exact (h.setIo k v).setHdma _

/-! ## The bus -/

theorem MemoryInv.ioWriteReg (h : MemoryInv s) (k : Nat) (v : Byte) : MemoryInv (ioWriteReg s k v) := by
  unfold Machine.ioWriteReg
  split
  · exact h.setIo ..
  · exact { h.setIo 0x02 v with }
  · exact { h with }
  · unfold writeTima
    dsimp only
    split
    · exact { h with }
    · exact { h with }
  · exact { h.setIo 0x07 v with }
  · exact h.writeNr52 v
  · exact h.writeLcdc v
  · exact h.setIo ..
  · exact h
  · exact (h.setIo 0x45 v).requestIrqIf ..
  · exact (h.setIo 0x46 v).oamDma v 160
  · exact h.writeHdmaSrc ..
  · exact h.writeHdmaSrc ..
  · exact (h.setIo 0x53 v).setHdma _
  · exact (h.setIo 0x54 v).setHdma _
  · exact h.writeHdma5 v
  · exact { h.setIo 0x68 (paletteAdvance (s.ioByte 0x68)) with bgPal := Memory.write_wf _ _ h.bgPal }
  · exact { h.setIo 0x6A (paletteAdvance (s.ioByte 0x6A)) with objPal := Memory.write_wf _ _ h.objPal }
  · split
    · exact h.writeSound ..
    · split
      · exact { h with wave := Memory.write_wf _ _ h.wave }
      · exact h.setIo ..

theorem MemoryInv.ioWrite (h : MemoryInv s) (k : Nat) (v : Byte) : MemoryInv (ioWrite s k v) := by
  unfold Machine.ioWrite
  repeat' split
  · exact h
  · exact h.writeSound ..
  · exact h.setIo ..
  · exact h.ioWriteReg ..

/-- A bus write keeps the canonical form. -/
theorem MemoryInv.memWrite (h : MemoryInv s) (addr : Word) (v : Byte) : MemoryInv (memWrite s addr v) := by
  unfold Machine.memWrite writePlace
  split
  · exact h.mbcWrite ..
  · exact { h with vram := Memory.write_wf _ _ h.vram }
  · exact h.cartRamWrite ..
  · exact { h with wram := Memory.write_wf _ _ h.wram }
  · exact { h with oam := Memory.write_wf _ _ h.oam }
  · exact h.ioWrite ..
  · exact { h with hram := Memory.write_wf _ _ h.hram }
  · exact { h with }

/-- So does placing a byte from outside. -/
theorem MemoryInv.poke (h : MemoryInv s) (addr : Word) (v : Byte) : MemoryInv (poke s addr v) := by
  unfold Machine.poke
  split
  · exact { h with rom := Memory.write_wf _ _ h.rom }
  · exact { h with vram := Memory.write_wf _ _ h.vram }
  · split
    · exact { h with cram := Memory.write_wf _ _ h.cram }
    · exact h
  · exact { h with wram := Memory.write_wf _ _ h.wram }
  · exact { h with oam := Memory.write_wf _ _ h.oam }
  · exact h
  · exact { h with hram := Memory.write_wf _ _ h.hram }
  · exact { h with }

/-- And loading a battery dump. -/
theorem MemoryInv.importDump (h : MemoryInv s) (dump : List Byte) : MemoryInv (importDump dump s) := by
  unfold Machine.importDump
  split
  · exact { h with cram := Memory.ofBytes_wf _ _ }
  · exact h

end Sys2Proof.Machine
end

