-- ==== Sys2Proof/Laws/Decode.lean ====
section
/-! SUPPORT. What the decoder can do: both opcode maps are full (30_encoding R406, R407), so three bytes always hold an
instruction (R400, R405). -/

namespace Sys2Proof.Laws

/-- The base opcode map has an entry for every byte (R406, R408). -/
theorem baseTable_full : ∀ o : Byte, (Decode.baseTable[o.toNat]?).isSome = true := by decide +kernel

/-- The CB map has an entry for every byte (R407). -/
theorem cbTable_full : ∀ c : Byte, (Decode.cbTable[c.toNat]?).isSome = true := by decide +kernel

/-- Three bytes always decode: `step` never runs out of the bytes it fetches. -/
theorem decode_three_bytes (a b c : Byte) : ∃ i rest, decode [a, b, c] = .ok (i, rest) := by
  have ha := baseTable_full a
  have hb := cbTable_full b
  simp only [decode]
  cases hA : Decode.baseTable[a.toNat]? with
  | none => rw [hA] at ha; cases ha
  | some row =>
    cases row with
    | op i => exact ⟨_, _, rfl⟩
    | imm8 f => exact ⟨_, _, rfl⟩
    | imm16 f => exact ⟨_, _, rfl⟩
    | cbPrefix =>
      cases hB : Decode.cbTable[b.toNat]? with
      | none => rw [hB] at hb; cases hb
      | some i => exact ⟨_, _, rfl⟩

end Sys2Proof.Laws
end

