-- ==== Sys2Proof/Laws/Events.lean ====
section
/-! SUPPORT. What an event can change: the I/O bytes, VRAM (an HBlank DMA block), the timer, the serial deadline, HDMA,
the PPU, the APU and what the host has been handed; nothing else.  One lemma per operation an event is built from. -/

namespace Sys2Proof.Machine

/-- `t` differs from `s` only in what an event may change. -/
structure EventKeeps (s t : State) : Prop where
  regs : t.regs = s.regs
  ime : t.ime = s.ime
  imeArmed : t.imeArmed = s.imeArmed
  halted : t.halted = s.halted
  stopped : t.stopped = s.stopped
  haltRepeat : t.haltRepeat = s.haltRepeat
  counter : t.counter = s.counter
  doubleSpeed : t.doubleSpeed = s.doubleSpeed
  fault : t.fault = s.fault
  running : t.running = s.running
  runEnded : t.runEnded = s.runEnded
  gbcHardware : t.gbcHardware = s.gbcHardware
  cgbMode : t.cgbMode = s.cgbMode
  cart : t.cart = s.cart
  mapper : t.mapper = s.mapper
  rom : t.rom = s.rom
  cram : t.cram = s.cram
  wram : t.wram = s.wram
  oam : t.oam = s.oam
  wave : t.wave = s.wave
  hram : t.hram = s.hram
  ie : t.ie = s.ie
  bgPal : t.bgPal = s.bgPal
  objPal : t.objPal = s.objPal
  params : t.params = s.params

theorem EventKeeps.refl (s : State) : EventKeeps s s := by constructor <;> rfl

theorem EventKeeps.trans {s t u : State} (h : EventKeeps s t) (k : EventKeeps t u) : EventKeeps s u := by
  constructor
  · exact k.regs.trans h.regs
  · exact k.ime.trans h.ime
  · exact k.imeArmed.trans h.imeArmed
  · exact k.halted.trans h.halted
  · exact k.stopped.trans h.stopped
  · exact k.haltRepeat.trans h.haltRepeat
  · exact k.counter.trans h.counter
  · exact k.doubleSpeed.trans h.doubleSpeed
  · exact k.fault.trans h.fault
  · exact k.running.trans h.running
  · exact k.runEnded.trans h.runEnded
  · exact k.gbcHardware.trans h.gbcHardware
  · exact k.cgbMode.trans h.cgbMode
  · exact k.cart.trans h.cart
  · exact k.mapper.trans h.mapper
  · exact k.rom.trans h.rom
  · exact k.cram.trans h.cram
  · exact k.wram.trans h.wram
  · exact k.oam.trans h.oam
  · exact k.wave.trans h.wave
  · exact k.hram.trans h.hram
  · exact k.ie.trans h.ie
  · exact k.bgPal.trans h.bgPal
  · exact k.objPal.trans h.objPal
  · exact k.params.trans h.params

/-! ## The frame tick -/

theorem oneSample_only (s : State) : (oneSample s).2 = { s with apu := (oneSample s).2.apu } := by
  unfold oneSample sampleCh1 sampleCh2 sampleCh3 sampleCh4
  dsimp only
  repeat' split
  all_goals rfl

/-- Samples move the generators and nothing else. -/
theorem samples_only (n : Nat) (s : State) : (samples n s).2 = { s with apu := (samples n s).2.apu } := by
  induction n generalizing s with
  | zero => rfl
  | succ n ih =>
    show (samples n (oneSample s).2).2 = { s with apu := (samples n (oneSample s).2).2.apu }
    rw [oneSample_only s]
    exact ih _

theorem deliverSamples_only (s : State) : deliverSamples s = { s with
    apu := (deliverSamples s).apu
    host := { s.host with sinkCalls := (deliverSamples s).host.sinkCalls } } := by
  unfold deliverSamples
  generalize (if s.host.soundEnabled then s.host.sampleSlots else 0) = n
  by_cases h : n = 0
  · subst h
    rfl
  · simp only [h, if_false]
    rw [samples_only n s]
    rfl

theorem sweepTick_only (s : State) : sweepTick s = { s with io := (sweepTick s).io, apu := (sweepTick s).apu } := by
  unfold sweepTick sweepUpdate
  dsimp only
  repeat' split
  all_goals rfl

/-- The frame tick changes the APU, channel 1's frequency bytes and the record of the sink's calls. -/
theorem apuFrameTick_only (s : State) : apuFrameTick s = { s with
    io := (apuFrameTick s).io
    apu := (apuFrameTick s).apu
    host := { s.host with sinkCalls := (apuFrameTick s).host.sinkCalls } } := by
  unfold apuFrameTick
  split
  · rw [sweepTick_only]
    unfold envelopeTicks lengthTicks
    rw [deliverSamples_only]
  · rfl

theorem apuFrameTick_eventKeeps (s : State) : EventKeeps s (apuFrameTick s) := by
  rw [apuFrameTick_only]
  constructor <;> rfl

/-! ## The PPU -/

theorem setIo_eventKeeps (s : State) (k : Nat) (v : Byte) : EventKeeps s (s.setIo k v) := by constructor <;> rfl

theorem requestIrq_eventKeeps (s : State) (k : Nat) : EventKeeps s (requestIrq s k) := setIo_eventKeeps ..

theorem requestIrqIf_eventKeeps (s : State) (b : Bool) (k : Nat) : EventKeeps s (requestIrqIf s b k) := by
  unfold requestIrqIf
  split
  · exact requestIrq_eventKeeps s k
  · exact .refl s

theorem enterMode_eventKeeps (s : State) (m : PpuMode) (d : Nat) : EventKeeps s (enterMode s m d) := by
  constructor <;> rfl

theorem setLy_eventKeeps (s : State) (v : Byte) : EventKeeps s (setLy s v) := by
  refine EventKeeps.trans (t := { s with ppu := { s.ppu with ly := v } }) ?_ (requestIrqIf_eventKeeps ..)
  constructor <;> rfl

theorem renderLine_eventKeeps (s : State) (ly : Byte) : EventKeeps s (renderLine s ly) := by constructor <;> rfl

theorem publishFrame_eventKeeps (s : State) : EventKeeps s (publishFrame s) := by constructor <;> rfl

theorem hdmaCopy_only (n : Nat) (s : State) : hdmaCopy n s = { s with vram := (hdmaCopy n s).vram } := by
  induction n with
  | zero => rfl
  | succ n ih =>
    unfold hdmaCopy
    dsimp only
    rw [ih]

theorem hdmaBlock_only (s : State) : hdmaBlock s =
    { s with vram := (hdmaBlock s).vram, hdma := (hdmaBlock s).hdma } := by
  unfold hdmaBlock
  rw [hdmaCopy_only]

theorem hdmaBlock_eventKeeps (s : State) : EventKeeps s (hdmaBlock s) := by
  rw [hdmaBlock_only]
  constructor <;> rfl

theorem enterSearch_eventKeeps (s : State) (d : Nat) : EventKeeps s (enterSearch s d) :=
  (enterMode_eventKeeps ..).trans (requestIrqIf_eventKeeps ..)

theorem enterVblank_eventKeeps (s : State) (d : Nat) : EventKeeps s (enterVblank s d) := by
  have h := (((enterMode_eventKeeps s .vblank (d + 456 * speedFactor s)).trans (requestIrq_eventKeeps _ 0)).trans
    (requestIrqIf_eventKeeps _ (bit ((requestIrq (enterMode s .vblank (d + 456 * speedFactor s)) 0).ioByte 0x41) 4)
      1)).trans (publishFrame_eventKeeps _)
  have k := h.trans (apuFrameTick_eventKeeps _)
  exact k.trans (by constructor <;> rfl)

theorem modeEvent_eventKeeps (s : State) (d : Nat) : EventKeeps s (modeEvent s d) := by
  unfold modeEvent
  split
  · exact (enterMode_eventKeeps ..).trans (renderLine_eventKeeps ..)
  · unfold modeEvent3
    dsimp only
    split
    · exact ((enterMode_eventKeeps ..).trans (requestIrqIf_eventKeeps ..)).trans (hdmaBlock_eventKeeps _)
    · exact (enterMode_eventKeeps ..).trans (requestIrqIf_eventKeeps ..)
  · unfold modeEvent0
    dsimp only
    split
    · exact (setLy_eventKeeps ..).trans (enterVblank_eventKeeps ..)
    · exact (setLy_eventKeeps ..).trans (enterSearch_eventKeeps ..)
  · unfold modeEvent1
    split
    · exact (setLy_eventKeeps ..).trans (enterSearch_eventKeeps ..)
    · exact (setLy_eventKeeps ..).trans (enterMode_eventKeeps ..)

theorem offFrameEvent_eventKeeps (s : State) (d : Nat) : EventKeeps s (offFrameEvent s d) := by
  refine EventKeeps.trans (t := publishFrame { s with ppu := { s.ppu with
    backBuffer := Frame.uniform (.dmg 0)
    frameDeadlineOff := some (d + 70224 * speedFactor s) } }) ?_ (apuFrameTick_eventKeeps _)
  constructor <;> rfl

theorem timerEvent_eventKeeps (s : State) (d : Nat) : EventKeeps s (timerEvent s d) := by
  refine (requestIrq_eventKeeps s 2).trans ?_
  unfold timerEvent
  generalize requestIrq s 2 = t
  constructor <;> rfl

theorem serialEvent_eventKeeps (s : State) : EventKeeps s (serialEvent s) := by
  refine (((setIo_eventKeeps s 0x01 0xFF).trans
    (setIo_eventKeeps _ 0x02 (setBit (s.ioByte 0x02) 7 false))).trans (requestIrq_eventKeeps _ 3)).trans ?_
  unfold serialEvent
  dsimp only
  generalize requestIrq _ 3 = t
  constructor <;> rfl

/-- What an event, of any kind, leaves alone. -/
theorem runEvent_eventKeeps (s : State) (k : EventKind) (d : Nat) : EventKeeps s (runEvent s k d) := by
  unfold runEvent
  split
  · split
    · exact modeEvent_eventKeeps s d
    · exact offFrameEvent_eventKeeps s d
  · exact timerEvent_eventKeeps s d
  · exact serialEvent_eventKeeps s

end Sys2Proof.Machine
end

