-- ==== Sys2Proof/Laws/Moves.lean ====
section
/-! SUPPORT. What an instruction can do, said once: every next state of `exec` is reached by a sequence of elementary
moves (a register file, a bus write, the counter, the interrupt and parking state, the speed switch, the fatal error).
An invariant that every move keeps is kept by every instruction. -/

namespace Sys2Proof.Machine

/-- One elementary move of an instruction. -/
inductive Move (s : State) : State → Prop where
  /-- The register file; F's low nibble stays clear or F stays as it is. -/
  | regs (g : Regs) (h : g.f &&& 0x0F = 0 ∨ g.f = s.regs.f) : Move s (s.setRegs g)
  | write (addr : Word) (v : Byte) : Move s (memWrite s addr v)
  | cycles (n : Nat) : Move s (s.addCycles n)
  | repeatByte (b : Bool) : Move s { s with haltRepeat := b }
  /-- IME and IME_ARMED, never both 1. -/
  | interrupts (ime armed : Bool) (h : ¬(ime = true ∧ armed = true)) :
      Move s { s with ime := ime, imeArmed := armed }
  | halt : Move s { s with halted := true }
  | stop : Move s { s with stopped := true }
  | speed : Move s (speedSwitch s)
  | illegal (op : Byte) : Move s (raiseIllegal op s)

/-- A sequence of moves. -/
abbrev Moves : State → State → Prop := Relation.ReflTransGen Move

/-- What every move keeps, every sequence of moves keeps. -/
theorem Moves.keep {P : State → Prop} (hP : ∀ {s t}, Move s t → P s → P t) {s t : State} (h : Moves s t) (hs : P s) :
    P t := by
  induction h with
  | refl => exact hs
  | tail _ m ih => exact hP m ih

/-! ## The shared operations -/

theorem Moves.one {s t : State} (h : Move s t) : Moves s t := .single h

theorem moves_set8 (s : State) (r : R8) (v : Byte) : Moves s (s.set8 r v) :=
  .one (.regs _ (.inr (Regs.set8_f ..)))

theorem moves_setPc (s : State) (v : Word) : Moves s (s.setPc v) := .one (.regs _ (.inr rfl))

theorem moves_setSp (s : State) (v : Word) : Moves s (s.setSp v) := .one (.regs _ (.inr rfl))

theorem moves_setHl (s : State) (v : Word) : Moves s (s.setRegs (s.regs.setHl v)) := .one (.regs _ (.inr rfl))

theorem moves_setRp (s : State) (r : Rp) (v : Word) : Moves s (s.setRegs (s.regs.setRp r v)) :=
  .one (.regs _ (.inr (by cases r <;> rfl)))

theorem masked_low (v : Byte) : v &&& 0xF0 &&& 0x0F = 0 := by
  rw [BitVec.and_assoc]
  exact BitVec.and_zero

theorem moves_setRp2 (s : State) (r : Rp2) (v : Word) : Moves s (s.setRegs (s.regs.setRp2 r v)) := by
  cases r with
  | af => exact .one (.regs _ (.inl (masked_low _)))
  | _ => exact .one (.regs _ (.inr rfl))

theorem moves_setFlags (s : State) (w : Flags) : Moves s (s.setFlags w) := .one (.regs _ (.inl (masked_low _)))

theorem moves_memWrite (s : State) (addr : Word) (v : Byte) : Moves s (memWrite s addr v) := .one (.write addr v)

theorem moves_memWrite16 (s : State) (addr v : Word) : Moves s (memWrite16 s addr v) :=
  (moves_memWrite ..).trans (moves_memWrite ..)

theorem moves_push8 (s : State) (v : Byte) : Moves s (push8 s v) := (moves_setSp ..).trans (moves_memWrite ..)

theorem moves_push16 (s : State) (v : Word) : Moves s (push16 s v) := (moves_push8 ..).trans (moves_push8 ..)

theorem moves_pop16 (s : State) : Moves s (pop16 s).2 := moves_setSp ..

theorem moves_write (o : Opnd8) (v : Byte) (s : State) : Moves s (o.write v s) := by
  cases o with
  | reg r => exact moves_set8 ..
  | atHL => exact moves_memWrite ..
  | imm n => exact .refl

theorem moves_advance (s : State) (n : Nat) : Moves s (s.advance n) :=
  (moves_setPc s (s.regs.pc + BitVec.ofNat 16 (if s.haltRepeat then n - 1 else n))).trans (Moves.one (.repeatByte false))

theorem instruction_moves {effect : State → State} (he : ∀ u, Moves u (effect u)) {len cost : Nat} {s t : State}
    (h : instruction len cost effect s = .next t) : Moves s t := by
  obtain rfl := Host.Outcome.next.inj h
  exact ((moves_advance s len).trans (he _)).trans (Moves.one (.cycles cost))

theorem conditional_moves {effect : State → State} (he : ∀ u, Moves u (effect u)) {len taken notTaken : Nat}
    {cond : Bool} {s t : State} (h : conditional len taken notTaken cond effect s = .next t) : Moves s t := by
  unfold conditional at h
  split at h
  · exact instruction_moves he h
  · exact instruction_moves (fun u => .refl) h

/-! ## The operations of the families -/

section Families

variable {s t : State}

theorem opLd8_moves {len cost : Nat} {dst src : Opnd8} (h : opLd8 len cost dst src s = .next t) : Moves s t :=
  instruction_moves (fun _ => moves_write ..) h

theorem opLoadA_moves {len cost : Nat} {m : MemForm} (h : opLoadA len cost m s = .next t) : Moves s t :=
  instruction_moves (fun _ => moves_set8 ..) h

theorem opStoreA_moves {len cost : Nat} {m : MemForm} (h : opStoreA len cost m s = .next t) : Moves s t :=
  instruction_moves (fun _ => moves_memWrite ..) h

theorem opLoadAStep_moves {k : Word} (h : opLoadAStep k s = .next t) : Moves s t :=
  instruction_moves (fun _ => (moves_set8 ..).trans (moves_setHl ..)) h

theorem opStoreAStep_moves {k : Word} (h : opStoreAStep k s = .next t) : Moves s t :=
  instruction_moves (fun _ => (moves_memWrite ..).trans (moves_setHl ..)) h

theorem opLdRp_moves {r : Rp} {nn : Word} (h : opLdRp r nn s = .next t) : Moves s t :=
  instruction_moves (fun _ => moves_setRp ..) h

theorem opStoreSp_moves {nn : Word} (h : opStoreSp nn s = .next t) : Moves s t :=
  instruction_moves (fun _ => moves_memWrite16 ..) h

theorem opLdSpHl_moves (h : opLdSpHl s = .next t) : Moves s t := instruction_moves (fun _ => moves_setSp ..) h

theorem opLdHlSp_moves {e : Byte} (h : opLdHlSp e s = .next t) : Moves s t :=
  instruction_moves (fun _ => (moves_setHl ..).trans (moves_setFlags ..)) h

theorem opPush_moves {r : Rp2} (h : opPush r s = .next t) : Moves s t :=
  instruction_moves (fun _ => moves_push16 ..) h

theorem opPop_moves {r : Rp2} (h : opPop r s = .next t) : Moves s t :=
  instruction_moves (fun _ => (moves_pop16 _).trans (moves_setRp2 ..)) h

theorem opAlu_moves {len cost : Nat} {op : AluOp} {src : Opnd8} (h : opAlu len cost op src s = .next t) : Moves s t :=
  instruction_moves (fun _ => (moves_set8 ..).trans (moves_setFlags ..)) h

theorem opInc8_moves {cost : Nat} {dst : Opnd8} (h : opInc8 cost dst s = .next t) : Moves s t :=
  instruction_moves (fun _ => (moves_write ..).trans (moves_setFlags ..)) h

theorem opDec8_moves {cost : Nat} {dst : Opnd8} (h : opDec8 cost dst s = .next t) : Moves s t :=
  instruction_moves (fun _ => (moves_write ..).trans (moves_setFlags ..)) h

theorem opDaa_moves (h : opDaa s = .next t) : Moves s t :=
  instruction_moves (fun _ => (moves_set8 ..).trans (moves_setFlags ..)) h

theorem opCpl_moves (h : opCpl s = .next t) : Moves s t :=
  instruction_moves (fun _ => (moves_set8 ..).trans (moves_setFlags ..)) h

theorem opScf_moves (h : opScf s = .next t) : Moves s t := instruction_moves (fun _ => moves_setFlags ..) h

theorem opCcf_moves (h : opCcf s = .next t) : Moves s t := instruction_moves (fun _ => moves_setFlags ..) h

theorem opStepRp_moves {k : Word} {r : Rp} (h : opStepRp k r s = .next t) : Moves s t :=
  instruction_moves (fun _ => moves_setRp ..) h

theorem opAddHl_moves {r : Rp} (h : opAddHl r s = .next t) : Moves s t :=
  instruction_moves (fun _ => (moves_setHl ..).trans (moves_setFlags ..)) h

theorem opAddSp_moves {e : Byte} (h : opAddSp e s = .next t) : Moves s t :=
  instruction_moves (fun _ => (moves_setSp ..).trans (moves_setFlags ..)) h

theorem opRotA_moves {op : RotOp} (h : opRotA op s = .next t) : Moves s t :=
  instruction_moves (fun _ => (moves_set8 ..).trans (moves_setFlags ..)) h

theorem opRot_moves {cost : Nat} {op : RotOp} {dst : Opnd8} (h : opRot cost op dst s = .next t) : Moves s t :=
  instruction_moves (fun _ => (moves_write ..).trans (moves_setFlags ..)) h

theorem opBit_moves {cost : Nat} {b : BitIx} {src : Opnd8} (h : opBit cost b src s = .next t) : Moves s t :=
  instruction_moves (fun _ => moves_setFlags ..) h

theorem opRes_moves {cost : Nat} {b : BitIx} {dst : Opnd8} (h : opRes cost b dst s = .next t) : Moves s t :=
  instruction_moves (fun _ => moves_write ..) h

theorem opSet_moves {cost : Nat} {b : BitIx} {dst : Opnd8} (h : opSet cost b dst s = .next t) : Moves s t :=
  instruction_moves (fun _ => moves_write ..) h

theorem opCbByte_moves {c : Byte} (h : opCbByte c s = .next t) : Moves s t := by
  rcases hx : field c 7 6 with _ | _ | _ | n <;> simp only [opCbByte, hx] at h
  · exact opRot_moves h
  · exact opBit_moves h
  · exact opRes_moves h
  · exact opSet_moves h

theorem moves_callTo (nn : Word) (u : State) : Moves u (callTo nn u) := (moves_push16 ..).trans (moves_setPc ..)

theorem moves_returnTo (u : State) : Moves u (returnTo u) := (moves_pop16 _).trans (moves_setPc ..)

theorem opJp_moves {nn : Word} (h : opJp nn s = .next t) : Moves s t := instruction_moves (fun _ => moves_setPc ..) h

theorem opJpCC_moves {cc : Cond} {nn : Word} (h : opJpCC cc nn s = .next t) : Moves s t :=
  conditional_moves (fun _ => moves_setPc ..) h

theorem opJpHl_moves (h : opJpHl s = .next t) : Moves s t := instruction_moves (fun _ => moves_setPc ..) h

theorem opJr_moves {e : Byte} (h : opJr e s = .next t) : Moves s t := instruction_moves (fun _ => moves_setPc ..) h

theorem opJrCC_moves {cc : Cond} {e : Byte} (h : opJrCC cc e s = .next t) : Moves s t :=
  conditional_moves (fun _ => moves_setPc ..) h

theorem opCall_moves {nn : Word} (h : opCall nn s = .next t) : Moves s t := instruction_moves (moves_callTo nn) h

theorem opCallCC_moves {cc : Cond} {nn : Word} (h : opCallCC cc nn s = .next t) : Moves s t :=
  conditional_moves (moves_callTo nn) h

theorem opRet_moves (h : opRet s = .next t) : Moves s t := instruction_moves moves_returnTo h

theorem opRetCC_moves {cc : Cond} (h : opRetCC cc s = .next t) : Moves s t := conditional_moves moves_returnTo h

theorem opReti_moves (h : opReti s = .next t) : Moves s t :=
  instruction_moves (fun u => (moves_returnTo u).trans (Moves.one (.interrupts true false (by simp)))) h

theorem opRst_moves {v : RstVec} (h : opRst v s = .next t) : Moves s t := instruction_moves (moves_callTo _) h

theorem opNop_moves (h : opNop s = .next t) : Moves s t := instruction_moves (fun _ => .refl) h

theorem moves_haltEffect (u : State) : Moves u (haltEffect u) := by
  unfold haltEffect
  split
  · exact .one .halt
  · split
    · exact .refl
    · split
      · exact .refl
      · exact .one (.repeatByte true)

theorem opHalt_moves (h : opHalt s = .next t) : Moves s t := instruction_moves moves_haltEffect h

theorem moves_stopEffect (u : State) : Moves u (stopEffect u) := by
  unfold stopEffect
  split
  · exact .one .speed
  · exact .one .stop

theorem opStop_moves {n : Byte} (h : opStop n s = .next t) : Moves s t := instruction_moves moves_stopEffect h

theorem opDi_moves (h : opDi s = .next t) : Moves s t :=
  instruction_moves (fun _ => .one (.interrupts false false (by simp))) h

theorem moves_eiEffect (u : State) : Moves u (if u.ime then u else { u with imeArmed := true }) := by
  split
  · exact .refl
  · rename_i hi
    have h := Move.interrupts (s := u) u.ime true (by simpa using hi)
    exact .one h

theorem opEi_moves (h : opEi s = .next t) : Moves s t := instruction_moves moves_eiEffect h

theorem opIllegal_moves {op : IllegalOp} (h : opIllegal op s = .next t) : Moves s t := by
  obtain rfl := Host.Outcome.next.inj h
  exact .one (.illegal op.byte)

end Families

/-! ## Every instruction -/

/-- An instruction that answers a next state reaches it by moves: what `exec` can do, said once. -/
theorem exec_moves {i : Instr} {s t : State} (h : exec i s = .next t) : Moves s t := by
  cases i with
  | nop => exact opNop_moves h
  | ld_bc_d16 _ => exact opLdRp_moves h
  | ld_atBC_a => exact opStoreA_moves h
  | inc_bc => exact opStepRp_moves h
  | inc_b => exact opInc8_moves h
  | dec_b => exact opDec8_moves h
  | ld_b_d8 _ => exact opLd8_moves h
  | rlca => exact opRotA_moves h
  | ld_atA16_sp _ => exact opStoreSp_moves h
  | add_hl_bc => exact opAddHl_moves h
  | ld_a_atBC => exact opLoadA_moves h
  | dec_bc => exact opStepRp_moves h
  | inc_c => exact opInc8_moves h
  | dec_c => exact opDec8_moves h
  | ld_c_d8 _ => exact opLd8_moves h
  | rrca => exact opRotA_moves h
  | stop _ => exact opStop_moves (n := 0) h
  | ld_de_d16 _ => exact opLdRp_moves h
  | ld_atDE_a => exact opStoreA_moves h
  | inc_de => exact opStepRp_moves h
  | inc_d => exact opInc8_moves h
  | dec_d => exact opDec8_moves h
  | ld_d_d8 _ => exact opLd8_moves h
  | rla => exact opRotA_moves h
  | jr_e8 _ => exact opJr_moves h
  | add_hl_de => exact opAddHl_moves h
  | ld_a_atDE => exact opLoadA_moves h
  | dec_de => exact opStepRp_moves h
  | inc_e => exact opInc8_moves h
  | dec_e => exact opDec8_moves h
  | ld_e_d8 _ => exact opLd8_moves h
  | rra => exact opRotA_moves h
  | jr_nz_e8 _ => exact opJrCC_moves h
  | ld_hl_d16 _ => exact opLdRp_moves h
  | ld_atHLi_a => exact opStoreAStep_moves h
  | inc_hl => exact opStepRp_moves h
  | inc_h => exact opInc8_moves h
  | dec_h => exact opDec8_moves h
  | ld_h_d8 _ => exact opLd8_moves h
  | daa => exact opDaa_moves h
  | jr_z_e8 _ => exact opJrCC_moves h
  | add_hl_hl => exact opAddHl_moves h
  | ld_a_atHLi => exact opLoadAStep_moves h
  | dec_hl => exact opStepRp_moves h
  | inc_l => exact opInc8_moves h
  | dec_l => exact opDec8_moves h
  | ld_l_d8 _ => exact opLd8_moves h
  | cpl => exact opCpl_moves h
  | jr_nc_e8 _ => exact opJrCC_moves h
  | ld_sp_d16 _ => exact opLdRp_moves h
  | ld_atHLd_a => exact opStoreAStep_moves h
  | inc_sp => exact opStepRp_moves h
  | inc_atHL => exact opInc8_moves h
  | dec_atHL => exact opDec8_moves h
  | ld_atHL_d8 _ => exact opLd8_moves h
  | scf => exact opScf_moves h
  | jr_c_e8 _ => exact opJrCC_moves h
  | add_hl_sp => exact opAddHl_moves h
  | ld_a_atHLd => exact opLoadAStep_moves h
  | dec_sp => exact opStepRp_moves h
  | inc_a => exact opInc8_moves h
  | dec_a => exact opDec8_moves h
  | ld_a_d8 _ => exact opLd8_moves h
  | ccf => exact opCcf_moves h
  | ld_b_b => exact opLd8_moves h
  | ld_b_c => exact opLd8_moves h
  | ld_b_d => exact opLd8_moves h
  | ld_b_e => exact opLd8_moves h
  | ld_b_h => exact opLd8_moves h
  | ld_b_l => exact opLd8_moves h
  | ld_b_atHL => exact opLd8_moves h
  | ld_b_a => exact opLd8_moves h
  | ld_c_b => exact opLd8_moves h
  | ld_c_c => exact opLd8_moves h
  | ld_c_d => exact opLd8_moves h
  | ld_c_e => exact opLd8_moves h
  | ld_c_h => exact opLd8_moves h
  | ld_c_l => exact opLd8_moves h
  | ld_c_atHL => exact opLd8_moves h
  | ld_c_a => exact opLd8_moves h
  | ld_d_b => exact opLd8_moves h
  | ld_d_c => exact opLd8_moves h
  | ld_d_d => exact opLd8_moves h
  | ld_d_e => exact opLd8_moves h
  | ld_d_h => exact opLd8_moves h
  | ld_d_l => exact opLd8_moves h
  | ld_d_atHL => exact opLd8_moves h
  | ld_d_a => exact opLd8_moves h
  | ld_e_b => exact opLd8_moves h
  | ld_e_c => exact opLd8_moves h
  | ld_e_d => exact opLd8_moves h
  | ld_e_e => exact opLd8_moves h
  | ld_e_h => exact opLd8_moves h
  | ld_e_l => exact opLd8_moves h
  | ld_e_atHL => exact opLd8_moves h
  | ld_e_a => exact opLd8_moves h
  | ld_h_b => exact opLd8_moves h
  | ld_h_c => exact opLd8_moves h
  | ld_h_d => exact opLd8_moves h
  | ld_h_e => exact opLd8_moves h
  | ld_h_h => exact opLd8_moves h
  | ld_h_l => exact opLd8_moves h
  | ld_h_atHL => exact opLd8_moves h
  | ld_h_a => exact opLd8_moves h
  | ld_l_b => exact opLd8_moves h
  | ld_l_c => exact opLd8_moves h
  | ld_l_d => exact opLd8_moves h
  | ld_l_e => exact opLd8_moves h
  | ld_l_h => exact opLd8_moves h
  | ld_l_l => exact opLd8_moves h
  | ld_l_atHL => exact opLd8_moves h
  | ld_l_a => exact opLd8_moves h
  | ld_atHL_b => exact opLd8_moves h
  | ld_atHL_c => exact opLd8_moves h
  | ld_atHL_d => exact opLd8_moves h
  | ld_atHL_e => exact opLd8_moves h
  | ld_atHL_h => exact opLd8_moves h
  | ld_atHL_l => exact opLd8_moves h
  | halt => exact opHalt_moves h
  | ld_atHL_a => exact opLd8_moves h
  | ld_a_b => exact opLd8_moves h
  | ld_a_c => exact opLd8_moves h
  | ld_a_d => exact opLd8_moves h
  | ld_a_e => exact opLd8_moves h
  | ld_a_h => exact opLd8_moves h
  | ld_a_l => exact opLd8_moves h
  | ld_a_atHL => exact opLd8_moves h
  | ld_a_a => exact opLd8_moves h
  | add_a_b => exact opAlu_moves h
  | add_a_c => exact opAlu_moves h
  | add_a_d => exact opAlu_moves h
  | add_a_e => exact opAlu_moves h
  | add_a_h => exact opAlu_moves h
  | add_a_l => exact opAlu_moves h
  | add_a_atHL => exact opAlu_moves h
  | add_a_a => exact opAlu_moves h
  | adc_a_b => exact opAlu_moves h
  | adc_a_c => exact opAlu_moves h
  | adc_a_d => exact opAlu_moves h
  | adc_a_e => exact opAlu_moves h
  | adc_a_h => exact opAlu_moves h
  | adc_a_l => exact opAlu_moves h
  | adc_a_atHL => exact opAlu_moves h
  | adc_a_a => exact opAlu_moves h
  | sub_b => exact opAlu_moves h
  | sub_c => exact opAlu_moves h
  | sub_d => exact opAlu_moves h
  | sub_e => exact opAlu_moves h
  | sub_h => exact opAlu_moves h
  | sub_l => exact opAlu_moves h
  | sub_atHL => exact opAlu_moves h
  | sub_a => exact opAlu_moves h
  | sbc_a_b => exact opAlu_moves h
  | sbc_a_c => exact opAlu_moves h
  | sbc_a_d => exact opAlu_moves h
  | sbc_a_e => exact opAlu_moves h
  | sbc_a_h => exact opAlu_moves h
  | sbc_a_l => exact opAlu_moves h
  | sbc_a_atHL => exact opAlu_moves h
  | sbc_a_a => exact opAlu_moves h
  | and_b => exact opAlu_moves h
  | and_c => exact opAlu_moves h
  | and_d => exact opAlu_moves h
  | and_e => exact opAlu_moves h
  | and_h => exact opAlu_moves h
  | and_l => exact opAlu_moves h
  | and_atHL => exact opAlu_moves h
  | and_a => exact opAlu_moves h
  | xor_b => exact opAlu_moves h
  | xor_c => exact opAlu_moves h
  | xor_d => exact opAlu_moves h
  | xor_e => exact opAlu_moves h
  | xor_h => exact opAlu_moves h
  | xor_l => exact opAlu_moves h
  | xor_atHL => exact opAlu_moves h
  | xor_a => exact opAlu_moves h
  | or_b => exact opAlu_moves h
  | or_c => exact opAlu_moves h
  | or_d => exact opAlu_moves h
  | or_e => exact opAlu_moves h
  | or_h => exact opAlu_moves h
  | or_l => exact opAlu_moves h
  | or_atHL => exact opAlu_moves h
  | or_a => exact opAlu_moves h
  | cp_b => exact opAlu_moves h
  | cp_c => exact opAlu_moves h
  | cp_d => exact opAlu_moves h
  | cp_e => exact opAlu_moves h
  | cp_h => exact opAlu_moves h
  | cp_l => exact opAlu_moves h
  | cp_atHL => exact opAlu_moves h
  | cp_a => exact opAlu_moves h
  | ret_nz => exact opRetCC_moves h
  | pop_bc => exact opPop_moves h
  | jp_nz_a16 _ => exact opJpCC_moves h
  | jp_a16 _ => exact opJp_moves h
  | call_nz_a16 _ => exact opCallCC_moves h
  | push_bc => exact opPush_moves h
  | add_a_d8 _ => exact opAlu_moves h
  | rst_00h => exact opRst_moves h
  | ret_z => exact opRetCC_moves h
  | ret => exact opRet_moves h
  | jp_z_a16 _ => exact opJpCC_moves h
  | prefix_cb _ => exact opCbByte_moves h
  | call_z_a16 _ => exact opCallCC_moves h
  | call_a16 _ => exact opCall_moves h
  | adc_a_d8 _ => exact opAlu_moves h
  | rst_08h => exact opRst_moves h
  | ret_nc => exact opRetCC_moves h
  | pop_de => exact opPop_moves h
  | jp_nc_a16 _ => exact opJpCC_moves h
  | illegal_d3 => exact opIllegal_moves h
  | call_nc_a16 _ => exact opCallCC_moves h
  | push_de => exact opPush_moves h
  | sub_d8 _ => exact opAlu_moves h
  | rst_10h => exact opRst_moves h
  | ret_c => exact opRetCC_moves h
  | reti => exact opReti_moves h
  | jp_c_a16 _ => exact opJpCC_moves h
  | illegal_db => exact opIllegal_moves h
  | call_c_a16 _ => exact opCallCC_moves h
  | illegal_dd => exact opIllegal_moves h
  | sbc_a_d8 _ => exact opAlu_moves h
  | rst_18h => exact opRst_moves h
  | ldh_atA8_a _ => exact opStoreA_moves h
  | pop_hl => exact opPop_moves h
  | ldh_atC_a => exact opStoreA_moves h
  | illegal_e3 => exact opIllegal_moves h
  | illegal_e4 => exact opIllegal_moves h
  | push_hl => exact opPush_moves h
  | and_d8 _ => exact opAlu_moves h
  | rst_20h => exact opRst_moves h
  | add_sp_e8 _ => exact opAddSp_moves h
  | jp_hl => exact opJpHl_moves h
  | ld_atA16_a _ => exact opStoreA_moves h
  | illegal_eb => exact opIllegal_moves h
  | illegal_ec => exact opIllegal_moves h
  | illegal_ed => exact opIllegal_moves h
  | xor_d8 _ => exact opAlu_moves h
  | rst_28h => exact opRst_moves h
  | ldh_a_atA8 _ => exact opLoadA_moves h
  | pop_af => exact opPop_moves h
  | ldh_a_atC => exact opLoadA_moves h
  | di => exact opDi_moves h
  | illegal_f4 => exact opIllegal_moves h
  | push_af => exact opPush_moves h
  | or_d8 _ => exact opAlu_moves h
  | rst_30h => exact opRst_moves h
  | ld_hl_sp_e8 _ => exact opLdHlSp_moves h
  | ld_sp_hl => exact opLdSpHl_moves h
  | ld_a_atA16 _ => exact opLoadA_moves h
  | ei => exact opEi_moves h
  | illegal_fc => exact opIllegal_moves h
  | illegal_fd => exact opIllegal_moves h
  | cp_d8 _ => exact opAlu_moves h
  | rst_38h => exact opRst_moves h
  | rlc_b => exact opRot_moves h
  | rlc_c => exact opRot_moves h
  | rlc_d => exact opRot_moves h
  | rlc_e => exact opRot_moves h
  | rlc_h => exact opRot_moves h
  | rlc_l => exact opRot_moves h
  | rlc_atHL => exact opRot_moves h
  | rlc_a => exact opRot_moves h
  | rrc_b => exact opRot_moves h
  | rrc_c => exact opRot_moves h
  | rrc_d => exact opRot_moves h
  | rrc_e => exact opRot_moves h
  | rrc_h => exact opRot_moves h
  | rrc_l => exact opRot_moves h
  | rrc_atHL => exact opRot_moves h
  | rrc_a => exact opRot_moves h
  | rl_b => exact opRot_moves h
  | rl_c => exact opRot_moves h
  | rl_d => exact opRot_moves h
  | rl_e => exact opRot_moves h
  | rl_h => exact opRot_moves h
  | rl_l => exact opRot_moves h
  | rl_atHL => exact opRot_moves h
  | rl_a => exact opRot_moves h
  | rr_b => exact opRot_moves h
  | rr_c => exact opRot_moves h
  | rr_d => exact opRot_moves h
  | rr_e => exact opRot_moves h
  | rr_h => exact opRot_moves h
  | rr_l => exact opRot_moves h
  | rr_atHL => exact opRot_moves h
  | rr_a => exact opRot_moves h
  | sla_b => exact opRot_moves h
  | sla_c => exact opRot_moves h
  | sla_d => exact opRot_moves h
  | sla_e => exact opRot_moves h
  | sla_h => exact opRot_moves h
  | sla_l => exact opRot_moves h
  | sla_atHL => exact opRot_moves h
  | sla_a => exact opRot_moves h
  | sra_b => exact opRot_moves h
  | sra_c => exact opRot_moves h
  | sra_d => exact opRot_moves h
  | sra_e => exact opRot_moves h
  | sra_h => exact opRot_moves h
  | sra_l => exact opRot_moves h
  | sra_atHL => exact opRot_moves h
  | sra_a => exact opRot_moves h
  | swap_b => exact opRot_moves h
  | swap_c => exact opRot_moves h
  | swap_d => exact opRot_moves h
  | swap_e => exact opRot_moves h
  | swap_h => exact opRot_moves h
  | swap_l => exact opRot_moves h
  | swap_atHL => exact opRot_moves h
  | swap_a => exact opRot_moves h
  | srl_b => exact opRot_moves h
  | srl_c => exact opRot_moves h
  | srl_d => exact opRot_moves h
  | srl_e => exact opRot_moves h
  | srl_h => exact opRot_moves h
  | srl_l => exact opRot_moves h
  | srl_atHL => exact opRot_moves h
  | srl_a => exact opRot_moves h
  | bit_0_b => exact opBit_moves h
  | bit_0_c => exact opBit_moves h
  | bit_0_d => exact opBit_moves h
  | bit_0_e => exact opBit_moves h
  | bit_0_h => exact opBit_moves h
  | bit_0_l => exact opBit_moves h
  | bit_0_atHL => exact opBit_moves h
  | bit_0_a => exact opBit_moves h
  | bit_1_b => exact opBit_moves h
  | bit_1_c => exact opBit_moves h
  | bit_1_d => exact opBit_moves h
  | bit_1_e => exact opBit_moves h
  | bit_1_h => exact opBit_moves h
  | bit_1_l => exact opBit_moves h
  | bit_1_atHL => exact opBit_moves h
  | bit_1_a => exact opBit_moves h
  | bit_2_b => exact opBit_moves h
  | bit_2_c => exact opBit_moves h
  | bit_2_d => exact opBit_moves h
  | bit_2_e => exact opBit_moves h
  | bit_2_h => exact opBit_moves h
  | bit_2_l => exact opBit_moves h
  | bit_2_atHL => exact opBit_moves h
  | bit_2_a => exact opBit_moves h
  | bit_3_b => exact opBit_moves h
  | bit_3_c => exact opBit_moves h
  | bit_3_d => exact opBit_moves h
  | bit_3_e => exact opBit_moves h
  | bit_3_h => exact opBit_moves h
  | bit_3_l => exact opBit_moves h
  | bit_3_atHL => exact opBit_moves h
  | bit_3_a => exact opBit_moves h
  | bit_4_b => exact opBit_moves h
  | bit_4_c => exact opBit_moves h
  | bit_4_d => exact opBit_moves h
  | bit_4_e => exact opBit_moves h
  | bit_4_h => exact opBit_moves h
  | bit_4_l => exact opBit_moves h
  | bit_4_atHL => exact opBit_moves h
  | bit_4_a => exact opBit_moves h
  | bit_5_b => exact opBit_moves h
  | bit_5_c => exact opBit_moves h
  | bit_5_d => exact opBit_moves h
  | bit_5_e => exact opBit_moves h
  | bit_5_h => exact opBit_moves h
  | bit_5_l => exact opBit_moves h
  | bit_5_atHL => exact opBit_moves h
  | bit_5_a => exact opBit_moves h
  | bit_6_b => exact opBit_moves h
  | bit_6_c => exact opBit_moves h
  | bit_6_d => exact opBit_moves h
  | bit_6_e => exact opBit_moves h
  | bit_6_h => exact opBit_moves h
  | bit_6_l => exact opBit_moves h
  | bit_6_atHL => exact opBit_moves h
  | bit_6_a => exact opBit_moves h
  | bit_7_b => exact opBit_moves h
  | bit_7_c => exact opBit_moves h
  | bit_7_d => exact opBit_moves h
  | bit_7_e => exact opBit_moves h
  | bit_7_h => exact opBit_moves h
  | bit_7_l => exact opBit_moves h
  | bit_7_atHL => exact opBit_moves h
  | bit_7_a => exact opBit_moves h
  | res_0_b => exact opRes_moves h
  | res_0_c => exact opRes_moves h
  | res_0_d => exact opRes_moves h
  | res_0_e => exact opRes_moves h
  | res_0_h => exact opRes_moves h
  | res_0_l => exact opRes_moves h
  | res_0_atHL => exact opRes_moves h
  | res_0_a => exact opRes_moves h
  | res_1_b => exact opRes_moves h
  | res_1_c => exact opRes_moves h
  | res_1_d => exact opRes_moves h
  | res_1_e => exact opRes_moves h
  | res_1_h => exact opRes_moves h
  | res_1_l => exact opRes_moves h
  | res_1_atHL => exact opRes_moves h
  | res_1_a => exact opRes_moves h
  | res_2_b => exact opRes_moves h
  | res_2_c => exact opRes_moves h
  | res_2_d => exact opRes_moves h
  | res_2_e => exact opRes_moves h
  | res_2_h => exact opRes_moves h
  | res_2_l => exact opRes_moves h
  | res_2_atHL => exact opRes_moves h
  | res_2_a => exact opRes_moves h
  | res_3_b => exact opRes_moves h
  | res_3_c => exact opRes_moves h
  | res_3_d => exact opRes_moves h
  | res_3_e => exact opRes_moves h
  | res_3_h => exact opRes_moves h
  | res_3_l => exact opRes_moves h
  | res_3_atHL => exact opRes_moves h
  | res_3_a => exact opRes_moves h
  | res_4_b => exact opRes_moves h
  | res_4_c => exact opRes_moves h
  | res_4_d => exact opRes_moves h
  | res_4_e => exact opRes_moves h
  | res_4_h => exact opRes_moves h
  | res_4_l => exact opRes_moves h
  | res_4_atHL => exact opRes_moves h
  | res_4_a => exact opRes_moves h
  | res_5_b => exact opRes_moves h
  | res_5_c => exact opRes_moves h
  | res_5_d => exact opRes_moves h
  | res_5_e => exact opRes_moves h
  | res_5_h => exact opRes_moves h
  | res_5_l => exact opRes_moves h
  | res_5_atHL => exact opRes_moves h
  | res_5_a => exact opRes_moves h
  | res_6_b => exact opRes_moves h
  | res_6_c => exact opRes_moves h
  | res_6_d => exact opRes_moves h
  | res_6_e => exact opRes_moves h
  | res_6_h => exact opRes_moves h
  | res_6_l => exact opRes_moves h
  | res_6_atHL => exact opRes_moves h
  | res_6_a => exact opRes_moves h
  | res_7_b => exact opRes_moves h
  | res_7_c => exact opRes_moves h
  | res_7_d => exact opRes_moves h
  | res_7_e => exact opRes_moves h
  | res_7_h => exact opRes_moves h
  | res_7_l => exact opRes_moves h
  | res_7_atHL => exact opRes_moves h
  | res_7_a => exact opRes_moves h
  | set_0_b => exact opSet_moves h
  | set_0_c => exact opSet_moves h
  | set_0_d => exact opSet_moves h
  | set_0_e => exact opSet_moves h
  | set_0_h => exact opSet_moves h
  | set_0_l => exact opSet_moves h
  | set_0_atHL => exact opSet_moves h
  | set_0_a => exact opSet_moves h
  | set_1_b => exact opSet_moves h
  | set_1_c => exact opSet_moves h
  | set_1_d => exact opSet_moves h
  | set_1_e => exact opSet_moves h
  | set_1_h => exact opSet_moves h
  | set_1_l => exact opSet_moves h
  | set_1_atHL => exact opSet_moves h
  | set_1_a => exact opSet_moves h
  | set_2_b => exact opSet_moves h
  | set_2_c => exact opSet_moves h
  | set_2_d => exact opSet_moves h
  | set_2_e => exact opSet_moves h
  | set_2_h => exact opSet_moves h
  | set_2_l => exact opSet_moves h
  | set_2_atHL => exact opSet_moves h
  | set_2_a => exact opSet_moves h
  | set_3_b => exact opSet_moves h
  | set_3_c => exact opSet_moves h
  | set_3_d => exact opSet_moves h
  | set_3_e => exact opSet_moves h
  | set_3_h => exact opSet_moves h
  | set_3_l => exact opSet_moves h
  | set_3_atHL => exact opSet_moves h
  | set_3_a => exact opSet_moves h
  | set_4_b => exact opSet_moves h
  | set_4_c => exact opSet_moves h
  | set_4_d => exact opSet_moves h
  | set_4_e => exact opSet_moves h
  | set_4_h => exact opSet_moves h
  | set_4_l => exact opSet_moves h
  | set_4_atHL => exact opSet_moves h
  | set_4_a => exact opSet_moves h
  | set_5_b => exact opSet_moves h
  | set_5_c => exact opSet_moves h
  | set_5_d => exact opSet_moves h
  | set_5_e => exact opSet_moves h
  | set_5_h => exact opSet_moves h
  | set_5_l => exact opSet_moves h
  | set_5_atHL => exact opSet_moves h
  | set_5_a => exact opSet_moves h
  | set_6_b => exact opSet_moves h
  | set_6_c => exact opSet_moves h
  | set_6_d => exact opSet_moves h
  | set_6_e => exact opSet_moves h
  | set_6_h => exact opSet_moves h
  | set_6_l => exact opSet_moves h
  | set_6_atHL => exact opSet_moves h
  | set_6_a => exact opSet_moves h
  | set_7_b => exact opSet_moves h
  | set_7_c => exact opSet_moves h
  | set_7_d => exact opSet_moves h
  | set_7_e => exact opSet_moves h
  | set_7_h => exact opSet_moves h
  | set_7_l => exact opSet_moves h
  | set_7_atHL => exact opSet_moves h
  | set_7_a => exact opSet_moves h

end Sys2Proof.Machine
end

