-- ==== Sys2Proof/Laws/Reads.lean ====
section
/-! SUPPORT. What a bus read gives after one array, or nothing a read looks at, has been replaced. -/

namespace Sys2Proof.Machine

/-- Where an address leads does not depend on the contents of any array but the I/O file. -/
theorem placeOf_same {s t : State} (hc : t.cart = s.cart) (hm : t.mapper = s.mapper) (hg : t.cgbMode = s.cgbMode)
    (hi : t.io = s.io) (a : Word) : placeOf t a = placeOf s a := by
  have h1 : romHiBank t = romHiBank s := by unfold romHiBank; rw [hc, hm]
  have h2 : vramBank t = vramBank s := by unfold vramBank State.ioByte; rw [hg, hi]
  have h3 : wramSel t = wramSel s := by unfold wramSel State.ioByte; rw [hg, hi]
  unfold placeOf romIndex wramIndex
  rw [h1, h2, h3, hc]

variable (s : State) (m : Memory) (a : Word)

theorem memRead_vram : memRead { s with vram := m } a =
    (match placeOf s a with
      | .vram k => m.read k
      | _ => memRead s a) := by
  show readPlace { s with vram := m } (placeOf s a) = _
  unfold memRead
  generalize placeOf s a = p
  cases p <;> rfl

theorem memRead_wram : memRead { s with wram := m } a =
    (match placeOf s a with
      | .wram k => m.read k
      | _ => memRead s a) := by
  show readPlace { s with wram := m } (placeOf s a) = _
  unfold memRead
  generalize placeOf s a = p
  cases p <;> rfl

theorem memRead_oam : memRead { s with oam := m } a =
    (match placeOf s a with
      | .oam k => m.read k
      | _ => memRead s a) := by
  show readPlace { s with oam := m } (placeOf s a) = _
  unfold memRead
  generalize placeOf s a = p
  cases p <;> rfl

theorem memRead_hram : memRead { s with hram := m } a =
    (match placeOf s a with
      | .hram k => m.read k
      | _ => memRead s a) := by
  show readPlace { s with hram := m } (placeOf s a) = _
  unfold memRead
  generalize placeOf s a = p
  cases p <;> rfl

theorem memRead_ie (v : Byte) : memRead { s with ie := v } a =
    (match placeOf s a with
      | .ie => v
      | _ => memRead s a) := by
  show readPlace { s with ie := v } (placeOf s a) = _
  unfold memRead
  generalize placeOf s a = p
  cases p <;> rfl

theorem memRead_cram : memRead { s with cram := m } a =
    (match placeOf s a with
      | .cartRam off => cartRamRead { s with cram := m } off
      | _ => memRead s a) := by
  show readPlace { s with cram := m } (placeOf s a) = _
  unfold memRead
  generalize placeOf s a = p
  cases p <;> rfl

theorem cartRamRead_cram (off : Nat) : cartRamRead { s with cram := m } off =
    (match cartRamTarget s off with
      | .ram k => m.read k
      | .nibble k => 0xF0 ||| m.read k
      | _ => cartRamRead s off) := by
  show (match cartRamTarget s off with
    | .absent => (0xFF : Byte)
    | .ram k => m.read k
    | .nibble k => 0xF0 ||| m.read k
    | .rtc j => s.mapper.rtcLatched.get j ||| ~~~(rtcMask j)) = _
  unfold cartRamRead
  generalize cartRamTarget s off = p
  cases p <;> rfl

/-- Wave RAM is never an unused address. -/
theorem ioUnused_wave (cgb : Bool) {k : Nat} (h : 0x30 ≤ k ∧ k ≤ 0x3F) : ioUnused cgb k = false := by
  obtain ⟨h1, h2⟩ := h
  interval_cases k <;> cases cgb <;> rfl

theorem memRead_wave : memRead { s with wave := m } a =
    (match placeOf s a with
      | .io k => if 0x30 ≤ k ∧ k ≤ 0x3F then m.read (k - 0x30) else memRead s a
      | _ => memRead s a) := by
  show readPlace { s with wave := m } (placeOf s a) = _
  unfold memRead
  generalize placeOf s a = p
  cases p with
  | io k =>
    show ioRead { s with wave := m } k = if 0x30 ≤ k ∧ k ≤ 0x3F then m.read (k - 0x30) else ioRead s k
    by_cases h : 0x30 ≤ k ∧ k ≤ 0x3F
    · rw [if_pos h]
      have hu := ioUnused_wave s.cgbMode h
      unfold ioRead
      have hu' : ioUnused ({ s with wave := m } : State).cgbMode k = false := hu
      rw [hu']
      obtain ⟨h1, h2⟩ := h
      interval_cases k <;> rfl
    · rw [if_neg h]
      unfold ioRead
      have hu' : ioUnused ({ s with wave := m } : State).cgbMode k = ioUnused s.cgbMode k := rfl
      rw [hu']
      cases ioUnused s.cgbMode k
      · simp only [Bool.false_eq_true, if_false]
        unfold ioReadReg
        split <;> first | rfl | (simp only [h, if_false]; rfl)
      · rfl
  | _ => rfl

/-- A read looks at nothing of the registers, the interrupt and parking state or the run's state of life. -/
theorem memRead_outside (g : Regs) (i j h st r f : Bool) (e : Option IllegalOpcode) :
    memRead { s with regs := g, ime := i, imeArmed := j, halted := h, stopped := st, haltRepeat := r, running := f, fault := e } a =
      memRead s a := rfl

end Sys2Proof.Machine
end

