-- ==== Sys2Proof/Laws/Rtc.lean ====
section
/-! SUPPORT. When the RTC is synced cannot be seen (25_cartridge R345, 20_memory R213; log 12): a sync changes no byte a
bus read shows, and a sync at a read in between leaves what the next sync makes. -/

namespace Sys2Proof.Laws

open Sys2Proof.Machine

/-- The ticks of two spans are the ticks of the whole span. -/
theorem ticks_add (m n : Nat) (r : Rtc) : Rtc.ticks (m + n) r = Rtc.ticks n (Rtc.ticks m r) := by
  induction m generalizing r with
  | zero => rw [Nat.zero_add]; rfl
  | succ m ih => rw [Nat.succ_add]; exact ih r.tick

/-- The whole seconds up to a read and from there on are the whole seconds of the span, for host time `t` at the read
and `t + d` later. -/
theorem seconds_split (t last d u : Nat) (hu : 0 < u) :
    (t - last) / u + (t + d - (last + (t - last) / u * u)) / u = (t + d - last) / u := by
  rcases Nat.le_total t last with h | h
  · simp [Nat.sub_eq_zero_of_le h]
  · have hq := Nat.div_mul_le_self (t - last) u
    have hs : t + d - last = t + d - (last + (t - last) / u * u) + (t - last) / u * u := by omega
    rw [hs, Nat.add_mul_div_right _ _ hu, Nat.add_comm]

/-- A sync at a read is absorbed by the next sync, however far host time has moved on by then. -/
theorem rtcSync_after_read (d : Nat) (s : State) :
    rtcSync (advanceHostTime d (rtcSync s)) = rtcSync (advanceHostTime d s) := by
  have hu : 0 < rtcUnitsPerSecond s.params.rtcUnit := by cases s.params.rtcUnit <;> decide
  have h := seconds_split s.host.time s.mapper.rtcLastSync d _ hu
  unfold rtcSync advanceHostTime
  dsimp only
  rw [← ticks_add, h, Nat.add_assoc, ← Nat.add_mul, h]

/-- A sync changes no byte that a bus read shows. -/
theorem memRead_rtcSync (s : State) (a : Word) : memRead (rtcSync s) a = memRead s a := by
  show readPlace (rtcSync s) (placeOf s a) = readPlace s (placeOf s a)
  generalize placeOf s a = p
  cases p <;> rfl

end Sys2Proof.Laws
end

