-- ==== Sys2Proof/Laws/Step.lean ====
section
/-! SUPPORT. What a step can do, said once: every next state of `step` is reached by the moves of an instruction and by
the acts around it (input, waking, acknowledging an interrupt, an event, the end-of-instruction update, the counter
of a parked core).  An invariant that each of these keeps is kept by every step. -/

namespace Sys2Proof.Machine

/-- One act of a step. -/
inductive Act (s : State) : State → Prop where
  | move {t : State} (h : Move s t) : Act s t
  | input : Act s (consumeInput s)
  | wake : Act s { s with halted := false }
  /-- IME and one IF bit cleared, as a dispatch begins. -/
  | acknowledge (k : Nat) : Act s { s.setIo 0x0F (setBit (s.ioByte 0x0F) k false) with ime := false }
  /-- The event of a kind at its deadline, which is due. -/
  | event (k : EventKind) (d : Nat) (h : nextScheduled s = some (d, k)) (hd : d ≤ s.counter) : Act s (runEvent s k d)
  | enable (h : s.imeArmed = true) : Act s { s with ime := true, imeArmed := false }
  /-- A parked core's counter moves to the next event. -/
  | passTime (n : Nat) : Act s { s with counter := max s.counter n }

/-- A sequence of acts. -/
abbrev Acts : State → State → Prop := Relation.ReflTransGen Act

/-- What every act keeps, every sequence of acts keeps. -/
theorem Acts.keep {P : State → Prop} (hP : ∀ {s t}, Act s t → P s → P t) {s t : State} (h : Acts s t) (hs : P s) :
    P t := by
  induction h with
  | refl => exact hs
  | tail _ m ih => exact hP m ih

theorem Acts.one {s t : State} (h : Act s t) : Acts s t := .single h

theorem Moves.acts {s t : State} (h : Moves s t) : Acts s t := by
  induction h with
  | refl => exact .refl
  | tail _ m ih => exact ih.tail (.move m)

theorem processDue_acts (n : Nat) (s : State) : Acts s (processDue n s) := by
  induction n generalizing s with
  | zero => exact .refl
  | succ n ih =>
    unfold processDue
    split
    · rename_i d k h
      split
      · exact (Acts.one (.event k d h ‹_›)).trans (ih _)
      · exact .refl
    · exact .refl

theorem processEvents_acts (s : State) : Acts s (processEvents s) := processDue_acts ..

theorem takeInterrupt_acts (k : Nat) (s : State) : Acts s (takeInterrupt k s) := by
  refine (Acts.one (.acknowledge k)).trans (Moves.acts ?_)
  exact ((moves_push16 _ _).trans (moves_setPc _ _)).trans (Moves.one (.cycles 20))

theorem dispatch_acts (k : Nat) (s : State) : Acts s (dispatch k s) :=
  (takeInterrupt_acts k s).trans (processEvents_acts _)

theorem interruptCheck_acts (s : State) : Acts s (interruptCheck s) := by
  unfold interruptCheck
  dsimp only
  split
  · exact .refl
  · split
    · exact (Acts.one .wake).trans (dispatch_acts _ _)
    · exact .one .wake

theorem endOfInstruction_acts (armed : Bool) (s : State) : Acts s (endOfInstruction armed s) := by
  unfold endOfInstruction
  split
  · rename_i h
    exact .one (.enable (by simp only [Bool.and_eq_true] at h; exact h.2))
  · exact .refl

theorem advanceToEvent_acts (s : State) : Acts s (advanceToEvent s) := by
  unfold advanceToEvent
  split
  · exact (Acts.one (.passTime _)).trans (processEvents_acts _)
  · exact .refl

theorem haltedStep_acts (s : State) : Acts s (haltedStep s) := by
  unfold haltedStep
  split
  · exact (advanceToEvent_acts s).trans (interruptCheck_acts _)
  · exact interruptCheck_acts s

theorem afterInstruction_acts (armed : Bool) (s : State) : Acts s (afterInstruction armed s) := by
  unfold afterInstruction
  split
  · exact .refl
  · exact ((endOfInstruction_acts armed s).trans (processEvents_acts _)).trans (interruptCheck_acts _)

/-- What an instruction step is: the decoded instruction executed, then what follows it. -/
theorem instructionStep_cases {s t : State} (h : instructionStep s = .next t) :
    ∃ i rest u, decode (fetchBytes s) = .ok (i, rest) ∧ exec i s = .next u ∧ t = afterInstruction s.imeArmed u := by
  unfold instructionStep at h
  split at h
  · cases h
  · rename_i i rest hd
    split at h
    · rename_i u hu
      exact ⟨i, rest, u, hd, hu, (Host.Outcome.next.inj h).symm⟩
    · cases h
    · cases h

/-- The four things a step can be: nothing (ended or not started), parked by STOP, parked by HALT, an instruction. -/
theorem step_cases {s t : State} (h : step s = .next t) :
    ((s.fault.isSome || !s.running) = true ∧ t = s) ∨
    ((s.fault.isSome || !s.running) = false ∧ (consumeInput s).stopped = true ∧ t = consumeInput s) ∨
    ((s.fault.isSome || !s.running) = false ∧ (consumeInput s).stopped = false ∧ (consumeInput s).halted = true ∧
      t = haltedStep (consumeInput s)) ∨
    ((s.fault.isSome || !s.running) = false ∧ (consumeInput s).stopped = false ∧ (consumeInput s).halted = false ∧
      instructionStep (consumeInput s) = .next t) := by
  unfold step at h
  dsimp only at h
  split at h
  · exact .inl ⟨‹_›, (Host.Outcome.next.inj h).symm⟩
  · have h0 : (s.fault.isSome || !s.running) = false := Bool.eq_false_iff.mpr ‹_›
    split at h
    · exact .inr (.inl ⟨h0, ‹_›, (Host.Outcome.next.inj h).symm⟩)
    · have h1 : (consumeInput s).stopped = false := Bool.eq_false_iff.mpr ‹_›
      split at h
      · exact .inr (.inr (.inl ⟨h0, h1, ‹_›, (Host.Outcome.next.inj h).symm⟩))
      · exact .inr (.inr (.inr ⟨h0, h1, Bool.eq_false_iff.mpr ‹_›, h⟩))

/-- Every step is a sequence of acts. -/
theorem step_acts {s t : State} (h : step s = .next t) : Acts s t := by
  obtain ⟨-, rfl⟩ | ⟨-, -, rfl⟩ | ⟨-, -, -, rfl⟩ | ⟨-, -, -, h⟩ := step_cases h
  · exact .refl
  · exact .one .input
  · exact (Acts.one .input).trans (haltedStep_acts _)
  · obtain ⟨i, rest, u, -, hu, rfl⟩ := instructionStep_cases h
    exact ((Acts.one .input).trans (exec_moves hu).acts).trans (afterInstruction_acts _ _)

end Sys2Proof.Machine
end

