-- ==== Sys2Proof/Tests/Slice0.lean ====
section
/-! SUPPORT. Tests: words written out from 30_encoding and spec/opcode_table.json, vectors transcribed from
95_test_vectors and the rules' examples, and one witness theorem for the hypotheses of each statement. -/

-- One test after another: checked side by side, their threads' stacks alone pass the check's memory limit.
set_option Elab.async false

open Sys2Proof Sys2Proof.Machine

namespace Sys2Proof.Tests

/-! ## A small machine -/

/-- Parameters of the test machine. -/
def params : Params where
  add16HalfCarry := .hwBit11
  haltBug := .none
  ioReadback := .hw
  spriteLineLimit := .ten
  mixFormat := .stereoS8
  rtcUnit := .seconds
  sampleRate := 1024

/-- The cartridge of type `t` with 4 ROM banks and 4 RAM banks. -/
def cartOf (t : Byte) : Cartridge := { cartType := t, romBanks := 4, ramBanks := 4 }

/-- A running machine in the DMG reset state with no controller and empty memory. -/
def machine : State :=
  { State.atReset params (InitRam.filled 0x00) false false (cartOf 0x00) (Memory.empty 0x00) with running := true }

/-- The test machine in `cgb_mode`. -/
def machineCgb : State :=
  { State.atReset params (InitRam.filled 0x00) true true (cartOf 0x00) (Memory.empty 0x00) with running := true }

/-- The test machine with a cartridge of type `t`, its RAM enabled. -/
def machineOf (t : Byte) : State :=
  { machine with
    cart := cartOf t
    mapper := { machine.mapper with ramEnabled := true } }

/-- The test machine with these bytes at 0xC000 and PC there. -/
def running (bytes : List Byte) : State := (pokeBytes bytes 0xC000 machine).setPc 0xC000

/-- The test machine with A and F. -/
def withAF (a f : Byte) : State := machine.setRegs { machine.regs with a := a, f := f }

/-- The test machine with HL, and the byte at it. -/
def withHL (hl : Word) (v : Byte) : State := poke (machine.setRegs (machine.regs.setHl hl)) hl v

/-- The state an instruction leaves. -/
def after (i : Instr) (s : State) : State :=
  match exec i s with
  | .next t => t
  | .fault _ => s
  | .refused _ => s

/-- The state a step leaves. -/
def stepped (s : State) : State :=
  match step s with
  | .next t => t
  | .fault _ => s
  | .refused _ => s

/-- The A and F an instruction leaves. -/
def leaves (i : Instr) (s : State) (a f : Byte) : Bool := (after i s).regs.a == a && (after i s).regs.f == f

/-! ## Well-formedness and decoding -/

/-- The smoke test of WellFormed: the bare prefix is refused (30_encoding R410), an ordinary instruction is not. -/
theorem test_wf_refuses_bare_prefix : (Instr.prefix_cb 0x37).wf = false ∧ Instr.swap_a.wf = true := by decide

/-- Both opcode maps have 256 entries (R406, R407). -/
theorem test_table_sizes : Decode.baseTable.length = 256 ∧ Decode.cbTable.length = 256 := by decide +kernel

/-- The bytes decode to the instruction, with nothing left over. -/
def decodesTo (p : List Byte × Instr) : Bool :=
  match decode p.1 with
  | .ok (i, []) => decide (i = p.2)
  | _ => false

theorem test_decode_base_0x : List.all [
  ([0x00], .nop), ([0x01, 0x34, 0x12], .ld_bc_d16 0x1234), ([0x02], .ld_atBC_a), ([0x03], .inc_bc),
  ([0x04], .inc_b), ([0x05], .dec_b), ([0x06, 0x9A], .ld_b_d8 0x9A), ([0x07], .rlca),
  ([0x08, 0x34, 0x12], .ld_atA16_sp 0x1234), ([0x09], .add_hl_bc), ([0x0A], .ld_a_atBC), ([0x0B], .dec_bc),
  ([0x0C], .inc_c), ([0x0D], .dec_c), ([0x0E, 0x9A], .ld_c_d8 0x9A), ([0x0F], .rrca)] decodesTo = true := by decide +kernel

theorem test_decode_base_1x : List.all [
  ([0x10, 0x9A], .stop 0x9A), ([0x11, 0x34, 0x12], .ld_de_d16 0x1234), ([0x12], .ld_atDE_a), ([0x13], .inc_de),
  ([0x14], .inc_d), ([0x15], .dec_d), ([0x16, 0x9A], .ld_d_d8 0x9A), ([0x17], .rla),
  ([0x18, 0x9A], .jr_e8 0x9A), ([0x19], .add_hl_de), ([0x1A], .ld_a_atDE), ([0x1B], .dec_de), ([0x1C], .inc_e),
  ([0x1D], .dec_e), ([0x1E, 0x9A], .ld_e_d8 0x9A), ([0x1F], .rra)] decodesTo = true := by decide +kernel

theorem test_decode_base_2x : List.all [
  ([0x20, 0x9A], .jr_nz_e8 0x9A), ([0x21, 0x34, 0x12], .ld_hl_d16 0x1234), ([0x22], .ld_atHLi_a),
  ([0x23], .inc_hl), ([0x24], .inc_h), ([0x25], .dec_h), ([0x26, 0x9A], .ld_h_d8 0x9A), ([0x27], .daa),
  ([0x28, 0x9A], .jr_z_e8 0x9A), ([0x29], .add_hl_hl), ([0x2A], .ld_a_atHLi), ([0x2B], .dec_hl),
  ([0x2C], .inc_l), ([0x2D], .dec_l), ([0x2E, 0x9A], .ld_l_d8 0x9A), ([0x2F], .cpl)] decodesTo = true := by decide +kernel

theorem test_decode_base_3x : List.all [
  ([0x30, 0x9A], .jr_nc_e8 0x9A), ([0x31, 0x34, 0x12], .ld_sp_d16 0x1234), ([0x32], .ld_atHLd_a),
  ([0x33], .inc_sp), ([0x34], .inc_atHL), ([0x35], .dec_atHL), ([0x36, 0x9A], .ld_atHL_d8 0x9A),
  ([0x37], .scf), ([0x38, 0x9A], .jr_c_e8 0x9A), ([0x39], .add_hl_sp), ([0x3A], .ld_a_atHLd),
  ([0x3B], .dec_sp), ([0x3C], .inc_a), ([0x3D], .dec_a), ([0x3E, 0x9A], .ld_a_d8 0x9A), ([0x3F], .ccf)] decodesTo = true := by decide +kernel

theorem test_decode_base_4x : List.all [
  ([0x40], .ld_b_b), ([0x41], .ld_b_c), ([0x42], .ld_b_d), ([0x43], .ld_b_e), ([0x44], .ld_b_h),
  ([0x45], .ld_b_l), ([0x46], .ld_b_atHL), ([0x47], .ld_b_a), ([0x48], .ld_c_b), ([0x49], .ld_c_c),
  ([0x4A], .ld_c_d), ([0x4B], .ld_c_e), ([0x4C], .ld_c_h), ([0x4D], .ld_c_l), ([0x4E], .ld_c_atHL),
  ([0x4F], .ld_c_a)] decodesTo = true := by decide +kernel

theorem test_decode_base_5x : List.all [
  ([0x50], .ld_d_b), ([0x51], .ld_d_c), ([0x52], .ld_d_d), ([0x53], .ld_d_e), ([0x54], .ld_d_h),
  ([0x55], .ld_d_l), ([0x56], .ld_d_atHL), ([0x57], .ld_d_a), ([0x58], .ld_e_b), ([0x59], .ld_e_c),
  ([0x5A], .ld_e_d), ([0x5B], .ld_e_e), ([0x5C], .ld_e_h), ([0x5D], .ld_e_l), ([0x5E], .ld_e_atHL),
  ([0x5F], .ld_e_a)] decodesTo = true := by decide +kernel

theorem test_decode_base_6x : List.all [
  ([0x60], .ld_h_b), ([0x61], .ld_h_c), ([0x62], .ld_h_d), ([0x63], .ld_h_e), ([0x64], .ld_h_h),
  ([0x65], .ld_h_l), ([0x66], .ld_h_atHL), ([0x67], .ld_h_a), ([0x68], .ld_l_b), ([0x69], .ld_l_c),
  ([0x6A], .ld_l_d), ([0x6B], .ld_l_e), ([0x6C], .ld_l_h), ([0x6D], .ld_l_l), ([0x6E], .ld_l_atHL),
  ([0x6F], .ld_l_a)] decodesTo = true := by decide +kernel

theorem test_decode_base_7x : List.all [
  ([0x70], .ld_atHL_b), ([0x71], .ld_atHL_c), ([0x72], .ld_atHL_d), ([0x73], .ld_atHL_e), ([0x74], .ld_atHL_h),
  ([0x75], .ld_atHL_l), ([0x76], .halt), ([0x77], .ld_atHL_a), ([0x78], .ld_a_b), ([0x79], .ld_a_c),
  ([0x7A], .ld_a_d), ([0x7B], .ld_a_e), ([0x7C], .ld_a_h), ([0x7D], .ld_a_l), ([0x7E], .ld_a_atHL),
  ([0x7F], .ld_a_a)] decodesTo = true := by decide +kernel

theorem test_decode_base_8x : List.all [
  ([0x80], .add_a_b), ([0x81], .add_a_c), ([0x82], .add_a_d), ([0x83], .add_a_e), ([0x84], .add_a_h),
  ([0x85], .add_a_l), ([0x86], .add_a_atHL), ([0x87], .add_a_a), ([0x88], .adc_a_b), ([0x89], .adc_a_c),
  ([0x8A], .adc_a_d), ([0x8B], .adc_a_e), ([0x8C], .adc_a_h), ([0x8D], .adc_a_l), ([0x8E], .adc_a_atHL),
  ([0x8F], .adc_a_a)] decodesTo = true := by decide +kernel

theorem test_decode_base_9x : List.all [
  ([0x90], .sub_b), ([0x91], .sub_c), ([0x92], .sub_d), ([0x93], .sub_e), ([0x94], .sub_h), ([0x95], .sub_l),
  ([0x96], .sub_atHL), ([0x97], .sub_a), ([0x98], .sbc_a_b), ([0x99], .sbc_a_c), ([0x9A], .sbc_a_d),
  ([0x9B], .sbc_a_e), ([0x9C], .sbc_a_h), ([0x9D], .sbc_a_l), ([0x9E], .sbc_a_atHL), ([0x9F], .sbc_a_a)] decodesTo = true := by decide +kernel

theorem test_decode_base_Ax : List.all [
  ([0xA0], .and_b), ([0xA1], .and_c), ([0xA2], .and_d), ([0xA3], .and_e), ([0xA4], .and_h), ([0xA5], .and_l),
  ([0xA6], .and_atHL), ([0xA7], .and_a), ([0xA8], .xor_b), ([0xA9], .xor_c), ([0xAA], .xor_d),
  ([0xAB], .xor_e), ([0xAC], .xor_h), ([0xAD], .xor_l), ([0xAE], .xor_atHL), ([0xAF], .xor_a)] decodesTo = true := by decide +kernel

theorem test_decode_base_Bx : List.all [
  ([0xB0], .or_b), ([0xB1], .or_c), ([0xB2], .or_d), ([0xB3], .or_e), ([0xB4], .or_h), ([0xB5], .or_l),
  ([0xB6], .or_atHL), ([0xB7], .or_a), ([0xB8], .cp_b), ([0xB9], .cp_c), ([0xBA], .cp_d), ([0xBB], .cp_e),
  ([0xBC], .cp_h), ([0xBD], .cp_l), ([0xBE], .cp_atHL), ([0xBF], .cp_a)] decodesTo = true := by decide +kernel

theorem test_decode_base_Cx : List.all [
  ([0xC0], .ret_nz), ([0xC1], .pop_bc), ([0xC2, 0x34, 0x12], .jp_nz_a16 0x1234),
  ([0xC3, 0x34, 0x12], .jp_a16 0x1234), ([0xC4, 0x34, 0x12], .call_nz_a16 0x1234), ([0xC5], .push_bc),
  ([0xC6, 0x9A], .add_a_d8 0x9A), ([0xC7], .rst_00h), ([0xC8], .ret_z), ([0xC9], .ret),
  ([0xCA, 0x34, 0x12], .jp_z_a16 0x1234), ([0xCC, 0x34, 0x12], .call_z_a16 0x1234),
  ([0xCD, 0x34, 0x12], .call_a16 0x1234), ([0xCE, 0x9A], .adc_a_d8 0x9A), ([0xCF], .rst_08h)] decodesTo = true := by decide +kernel

theorem test_decode_base_Dx : List.all [
  ([0xD0], .ret_nc), ([0xD1], .pop_de), ([0xD2, 0x34, 0x12], .jp_nc_a16 0x1234), ([0xD3], .illegal_d3),
  ([0xD4, 0x34, 0x12], .call_nc_a16 0x1234), ([0xD5], .push_de), ([0xD6, 0x9A], .sub_d8 0x9A),
  ([0xD7], .rst_10h), ([0xD8], .ret_c), ([0xD9], .reti), ([0xDA, 0x34, 0x12], .jp_c_a16 0x1234),
  ([0xDB], .illegal_db), ([0xDC, 0x34, 0x12], .call_c_a16 0x1234), ([0xDD], .illegal_dd),
  ([0xDE, 0x9A], .sbc_a_d8 0x9A), ([0xDF], .rst_18h)] decodesTo = true := by decide +kernel

theorem test_decode_base_Ex : List.all [
  ([0xE0, 0x9A], .ldh_atA8_a 0x9A), ([0xE1], .pop_hl), ([0xE2], .ldh_atC_a), ([0xE3], .illegal_e3),
  ([0xE4], .illegal_e4), ([0xE5], .push_hl), ([0xE6, 0x9A], .and_d8 0x9A), ([0xE7], .rst_20h),
  ([0xE8, 0x9A], .add_sp_e8 0x9A), ([0xE9], .jp_hl), ([0xEA, 0x34, 0x12], .ld_atA16_a 0x1234),
  ([0xEB], .illegal_eb), ([0xEC], .illegal_ec), ([0xED], .illegal_ed), ([0xEE, 0x9A], .xor_d8 0x9A),
  ([0xEF], .rst_28h)] decodesTo = true := by decide +kernel

theorem test_decode_base_Fx : List.all [
  ([0xF0, 0x9A], .ldh_a_atA8 0x9A), ([0xF1], .pop_af), ([0xF2], .ldh_a_atC), ([0xF3], .di),
  ([0xF4], .illegal_f4), ([0xF5], .push_af), ([0xF6, 0x9A], .or_d8 0x9A), ([0xF7], .rst_30h),
  ([0xF8, 0x9A], .ld_hl_sp_e8 0x9A), ([0xF9], .ld_sp_hl), ([0xFA, 0x34, 0x12], .ld_a_atA16 0x1234),
  ([0xFB], .ei), ([0xFC], .illegal_fc), ([0xFD], .illegal_fd), ([0xFE, 0x9A], .cp_d8 0x9A), ([0xFF], .rst_38h)] decodesTo = true := by decide +kernel

theorem test_decode_cb_0x : List.all [
  ([0xCB, 0x00], .rlc_b), ([0xCB, 0x01], .rlc_c), ([0xCB, 0x02], .rlc_d), ([0xCB, 0x03], .rlc_e),
  ([0xCB, 0x04], .rlc_h), ([0xCB, 0x05], .rlc_l), ([0xCB, 0x06], .rlc_atHL), ([0xCB, 0x07], .rlc_a),
  ([0xCB, 0x08], .rrc_b), ([0xCB, 0x09], .rrc_c), ([0xCB, 0x0A], .rrc_d), ([0xCB, 0x0B], .rrc_e),
  ([0xCB, 0x0C], .rrc_h), ([0xCB, 0x0D], .rrc_l), ([0xCB, 0x0E], .rrc_atHL), ([0xCB, 0x0F], .rrc_a)] decodesTo = true := by decide +kernel

theorem test_decode_cb_1x : List.all [
  ([0xCB, 0x10], .rl_b), ([0xCB, 0x11], .rl_c), ([0xCB, 0x12], .rl_d), ([0xCB, 0x13], .rl_e),
  ([0xCB, 0x14], .rl_h), ([0xCB, 0x15], .rl_l), ([0xCB, 0x16], .rl_atHL), ([0xCB, 0x17], .rl_a),
  ([0xCB, 0x18], .rr_b), ([0xCB, 0x19], .rr_c), ([0xCB, 0x1A], .rr_d), ([0xCB, 0x1B], .rr_e),
  ([0xCB, 0x1C], .rr_h), ([0xCB, 0x1D], .rr_l), ([0xCB, 0x1E], .rr_atHL), ([0xCB, 0x1F], .rr_a)] decodesTo = true := by decide +kernel

theorem test_decode_cb_2x : List.all [
  ([0xCB, 0x20], .sla_b), ([0xCB, 0x21], .sla_c), ([0xCB, 0x22], .sla_d), ([0xCB, 0x23], .sla_e),
  ([0xCB, 0x24], .sla_h), ([0xCB, 0x25], .sla_l), ([0xCB, 0x26], .sla_atHL), ([0xCB, 0x27], .sla_a),
  ([0xCB, 0x28], .sra_b), ([0xCB, 0x29], .sra_c), ([0xCB, 0x2A], .sra_d), ([0xCB, 0x2B], .sra_e),
  ([0xCB, 0x2C], .sra_h), ([0xCB, 0x2D], .sra_l), ([0xCB, 0x2E], .sra_atHL), ([0xCB, 0x2F], .sra_a)] decodesTo = true := by decide +kernel

theorem test_decode_cb_3x : List.all [
  ([0xCB, 0x30], .swap_b), ([0xCB, 0x31], .swap_c), ([0xCB, 0x32], .swap_d), ([0xCB, 0x33], .swap_e),
  ([0xCB, 0x34], .swap_h), ([0xCB, 0x35], .swap_l), ([0xCB, 0x36], .swap_atHL), ([0xCB, 0x37], .swap_a),
  ([0xCB, 0x38], .srl_b), ([0xCB, 0x39], .srl_c), ([0xCB, 0x3A], .srl_d), ([0xCB, 0x3B], .srl_e),
  ([0xCB, 0x3C], .srl_h), ([0xCB, 0x3D], .srl_l), ([0xCB, 0x3E], .srl_atHL), ([0xCB, 0x3F], .srl_a)] decodesTo = true := by decide +kernel

theorem test_decode_cb_4x : List.all [
  ([0xCB, 0x40], .bit_0_b), ([0xCB, 0x41], .bit_0_c), ([0xCB, 0x42], .bit_0_d), ([0xCB, 0x43], .bit_0_e),
  ([0xCB, 0x44], .bit_0_h), ([0xCB, 0x45], .bit_0_l), ([0xCB, 0x46], .bit_0_atHL), ([0xCB, 0x47], .bit_0_a),
  ([0xCB, 0x48], .bit_1_b), ([0xCB, 0x49], .bit_1_c), ([0xCB, 0x4A], .bit_1_d), ([0xCB, 0x4B], .bit_1_e),
  ([0xCB, 0x4C], .bit_1_h), ([0xCB, 0x4D], .bit_1_l), ([0xCB, 0x4E], .bit_1_atHL), ([0xCB, 0x4F], .bit_1_a)] decodesTo = true := by decide +kernel

theorem test_decode_cb_5x : List.all [
  ([0xCB, 0x50], .bit_2_b), ([0xCB, 0x51], .bit_2_c), ([0xCB, 0x52], .bit_2_d), ([0xCB, 0x53], .bit_2_e),
  ([0xCB, 0x54], .bit_2_h), ([0xCB, 0x55], .bit_2_l), ([0xCB, 0x56], .bit_2_atHL), ([0xCB, 0x57], .bit_2_a),
  ([0xCB, 0x58], .bit_3_b), ([0xCB, 0x59], .bit_3_c), ([0xCB, 0x5A], .bit_3_d), ([0xCB, 0x5B], .bit_3_e),
  ([0xCB, 0x5C], .bit_3_h), ([0xCB, 0x5D], .bit_3_l), ([0xCB, 0x5E], .bit_3_atHL), ([0xCB, 0x5F], .bit_3_a)] decodesTo = true := by decide +kernel

theorem test_decode_cb_6x : List.all [
  ([0xCB, 0x60], .bit_4_b), ([0xCB, 0x61], .bit_4_c), ([0xCB, 0x62], .bit_4_d), ([0xCB, 0x63], .bit_4_e),
  ([0xCB, 0x64], .bit_4_h), ([0xCB, 0x65], .bit_4_l), ([0xCB, 0x66], .bit_4_atHL), ([0xCB, 0x67], .bit_4_a),
  ([0xCB, 0x68], .bit_5_b), ([0xCB, 0x69], .bit_5_c), ([0xCB, 0x6A], .bit_5_d), ([0xCB, 0x6B], .bit_5_e),
  ([0xCB, 0x6C], .bit_5_h), ([0xCB, 0x6D], .bit_5_l), ([0xCB, 0x6E], .bit_5_atHL), ([0xCB, 0x6F], .bit_5_a)] decodesTo = true := by decide +kernel

theorem test_decode_cb_7x : List.all [
  ([0xCB, 0x70], .bit_6_b), ([0xCB, 0x71], .bit_6_c), ([0xCB, 0x72], .bit_6_d), ([0xCB, 0x73], .bit_6_e),
  ([0xCB, 0x74], .bit_6_h), ([0xCB, 0x75], .bit_6_l), ([0xCB, 0x76], .bit_6_atHL), ([0xCB, 0x77], .bit_6_a),
  ([0xCB, 0x78], .bit_7_b), ([0xCB, 0x79], .bit_7_c), ([0xCB, 0x7A], .bit_7_d), ([0xCB, 0x7B], .bit_7_e),
  ([0xCB, 0x7C], .bit_7_h), ([0xCB, 0x7D], .bit_7_l), ([0xCB, 0x7E], .bit_7_atHL), ([0xCB, 0x7F], .bit_7_a)] decodesTo = true := by decide +kernel

theorem test_decode_cb_8x : List.all [
  ([0xCB, 0x80], .res_0_b), ([0xCB, 0x81], .res_0_c), ([0xCB, 0x82], .res_0_d), ([0xCB, 0x83], .res_0_e),
  ([0xCB, 0x84], .res_0_h), ([0xCB, 0x85], .res_0_l), ([0xCB, 0x86], .res_0_atHL), ([0xCB, 0x87], .res_0_a),
  ([0xCB, 0x88], .res_1_b), ([0xCB, 0x89], .res_1_c), ([0xCB, 0x8A], .res_1_d), ([0xCB, 0x8B], .res_1_e),
  ([0xCB, 0x8C], .res_1_h), ([0xCB, 0x8D], .res_1_l), ([0xCB, 0x8E], .res_1_atHL), ([0xCB, 0x8F], .res_1_a)] decodesTo = true := by decide +kernel

theorem test_decode_cb_9x : List.all [
  ([0xCB, 0x90], .res_2_b), ([0xCB, 0x91], .res_2_c), ([0xCB, 0x92], .res_2_d), ([0xCB, 0x93], .res_2_e),
  ([0xCB, 0x94], .res_2_h), ([0xCB, 0x95], .res_2_l), ([0xCB, 0x96], .res_2_atHL), ([0xCB, 0x97], .res_2_a),
  ([0xCB, 0x98], .res_3_b), ([0xCB, 0x99], .res_3_c), ([0xCB, 0x9A], .res_3_d), ([0xCB, 0x9B], .res_3_e),
  ([0xCB, 0x9C], .res_3_h), ([0xCB, 0x9D], .res_3_l), ([0xCB, 0x9E], .res_3_atHL), ([0xCB, 0x9F], .res_3_a)] decodesTo = true := by decide +kernel

theorem test_decode_cb_Ax : List.all [
  ([0xCB, 0xA0], .res_4_b), ([0xCB, 0xA1], .res_4_c), ([0xCB, 0xA2], .res_4_d), ([0xCB, 0xA3], .res_4_e),
  ([0xCB, 0xA4], .res_4_h), ([0xCB, 0xA5], .res_4_l), ([0xCB, 0xA6], .res_4_atHL), ([0xCB, 0xA7], .res_4_a),
  ([0xCB, 0xA8], .res_5_b), ([0xCB, 0xA9], .res_5_c), ([0xCB, 0xAA], .res_5_d), ([0xCB, 0xAB], .res_5_e),
  ([0xCB, 0xAC], .res_5_h), ([0xCB, 0xAD], .res_5_l), ([0xCB, 0xAE], .res_5_atHL), ([0xCB, 0xAF], .res_5_a)] decodesTo = true := by decide +kernel

theorem test_decode_cb_Bx : List.all [
  ([0xCB, 0xB0], .res_6_b), ([0xCB, 0xB1], .res_6_c), ([0xCB, 0xB2], .res_6_d), ([0xCB, 0xB3], .res_6_e),
  ([0xCB, 0xB4], .res_6_h), ([0xCB, 0xB5], .res_6_l), ([0xCB, 0xB6], .res_6_atHL), ([0xCB, 0xB7], .res_6_a),
  ([0xCB, 0xB8], .res_7_b), ([0xCB, 0xB9], .res_7_c), ([0xCB, 0xBA], .res_7_d), ([0xCB, 0xBB], .res_7_e),
  ([0xCB, 0xBC], .res_7_h), ([0xCB, 0xBD], .res_7_l), ([0xCB, 0xBE], .res_7_atHL), ([0xCB, 0xBF], .res_7_a)] decodesTo = true := by decide +kernel

theorem test_decode_cb_Cx : List.all [
  ([0xCB, 0xC0], .set_0_b), ([0xCB, 0xC1], .set_0_c), ([0xCB, 0xC2], .set_0_d), ([0xCB, 0xC3], .set_0_e),
  ([0xCB, 0xC4], .set_0_h), ([0xCB, 0xC5], .set_0_l), ([0xCB, 0xC6], .set_0_atHL), ([0xCB, 0xC7], .set_0_a),
  ([0xCB, 0xC8], .set_1_b), ([0xCB, 0xC9], .set_1_c), ([0xCB, 0xCA], .set_1_d), ([0xCB, 0xCB], .set_1_e),
  ([0xCB, 0xCC], .set_1_h), ([0xCB, 0xCD], .set_1_l), ([0xCB, 0xCE], .set_1_atHL), ([0xCB, 0xCF], .set_1_a)] decodesTo = true := by decide +kernel

theorem test_decode_cb_Dx : List.all [
  ([0xCB, 0xD0], .set_2_b), ([0xCB, 0xD1], .set_2_c), ([0xCB, 0xD2], .set_2_d), ([0xCB, 0xD3], .set_2_e),
  ([0xCB, 0xD4], .set_2_h), ([0xCB, 0xD5], .set_2_l), ([0xCB, 0xD6], .set_2_atHL), ([0xCB, 0xD7], .set_2_a),
  ([0xCB, 0xD8], .set_3_b), ([0xCB, 0xD9], .set_3_c), ([0xCB, 0xDA], .set_3_d), ([0xCB, 0xDB], .set_3_e),
  ([0xCB, 0xDC], .set_3_h), ([0xCB, 0xDD], .set_3_l), ([0xCB, 0xDE], .set_3_atHL), ([0xCB, 0xDF], .set_3_a)] decodesTo = true := by decide +kernel

theorem test_decode_cb_Ex : List.all [
  ([0xCB, 0xE0], .set_4_b), ([0xCB, 0xE1], .set_4_c), ([0xCB, 0xE2], .set_4_d), ([0xCB, 0xE3], .set_4_e),
  ([0xCB, 0xE4], .set_4_h), ([0xCB, 0xE5], .set_4_l), ([0xCB, 0xE6], .set_4_atHL), ([0xCB, 0xE7], .set_4_a),
  ([0xCB, 0xE8], .set_5_b), ([0xCB, 0xE9], .set_5_c), ([0xCB, 0xEA], .set_5_d), ([0xCB, 0xEB], .set_5_e),
  ([0xCB, 0xEC], .set_5_h), ([0xCB, 0xED], .set_5_l), ([0xCB, 0xEE], .set_5_atHL), ([0xCB, 0xEF], .set_5_a)] decodesTo = true := by decide +kernel

theorem test_decode_cb_Fx : List.all [
  ([0xCB, 0xF0], .set_6_b), ([0xCB, 0xF1], .set_6_c), ([0xCB, 0xF2], .set_6_d), ([0xCB, 0xF3], .set_6_e),
  ([0xCB, 0xF4], .set_6_h), ([0xCB, 0xF5], .set_6_l), ([0xCB, 0xF6], .set_6_atHL), ([0xCB, 0xF7], .set_6_a),
  ([0xCB, 0xF8], .set_7_b), ([0xCB, 0xF9], .set_7_c), ([0xCB, 0xFA], .set_7_d), ([0xCB, 0xFB], .set_7_e),
  ([0xCB, 0xFC], .set_7_h), ([0xCB, 0xFD], .set_7_l), ([0xCB, 0xFE], .set_7_atHL), ([0xCB, 0xFF], .set_7_a)] decodesTo = true := by decide +kernel

/-- Table words: a CB row is one big-endian word; operand bytes may be left out (R414). -/
theorem test_decode_table_words :
    decodeTableWord 16 0xCB37 = some .swap_a ∧ decodeTableWord 24 0x0150C3 = some (.jp_a16 0x0150) ∧
    decodeTableWord 8 0xC3 = some (.jp_a16 0x0000) ∧ decodeTableWord 8 0xDD = some .illegal_dd := by decide +kernel

/-- A truncated list is rejected by name. -/
theorem test_decode_truncated :
    (decode [0xC3, 0x50]).toOption = none ∧ (decode [0xCB]).toOption = none ∧ (decode []).toOption = none := by
  decide +kernel

/-! ## Vectors: loads (95_test_vectors 2.1, 2.2) -/

/-- L2, L3: LD A,(HL) and LD A,(HL-). -/
theorem test_ld_a_atHL :
    (after .ld_a_atHL (withHL 0xC000 0x77)).regs.a = 0x77 ∧ (after .ld_a_atHL (withHL 0xC000 0x77)).counter = 8 ∧
    (after .ld_a_atHLd (withHL 0xC000 0x77)).regs.a = 0x77 ∧
    (after .ld_a_atHLd (withHL 0xC000 0x77)).regs.hl = 0xBFFF := by decide

/-- L4: LD (HL+),A at the top of the address space. -/
theorem test_ld_atHLi_a_wraps :
    (after .ld_atHLi_a ((withHL 0xFFFF 0x00).set8 .a 0x1F)).ie = 0x1F ∧
    (after .ld_atHLi_a ((withHL 0xFFFF 0x00).set8 .a 0x1F)).regs.hl = 0x0000 := by decide

/-- R503's corner: LD H,(HL) reads with the old HL. -/
theorem test_ld_h_atHL : (after .ld_h_atHL (withHL 0xC012 0x5A)).regs.hl = 0x5A12 := by decide

/-- L6, L7, L9: LDH (a8),A, an echo store, a VRAM store. -/
theorem test_stores_of_a :
    memRead (after (.ldh_atA8_a 0x80) (machine.set8 .a 0x12)) 0xFF80 = 0x12 ∧
    memRead (after (.ld_atA16_a 0xE123) (machine.set8 .a 0xAB)) 0xC123 = 0xAB ∧
    (after .ld_atBC_a (machine.setRegs { machine.regs with a := 0x3C, b := 0x80, c := 0x00 })).vram.read 0 = 0x3C := by
  decide

/-- L5: LDH A,(C) reads LY. -/
theorem test_ldh_a_atC :
    (after .ldh_a_atC { machine with
      regs := { machine.regs with c := 0x44 }, ppu := { machine.ppu with ly := 5 } }).regs.a = 0x05 := by decide

/-- W1: LD (a16),SP stores the low byte first. -/
theorem test_ld_atA16_sp :
    memRead (after (.ld_atA16_sp 0xC100) (machine.setSp 0xFFF8)) 0xC100 = 0xF8 ∧
    memRead (after (.ld_atA16_sp 0xC100) (machine.setSp 0xFFF8)) 0xC101 = 0xFF ∧
    (after (.ld_atA16_sp 0xC100) machine).counter = 20 := by decide

/-- W3: PUSH BC. -/
theorem test_push_bc :
    memRead (after .push_bc (machine.setRegs { machine.regs with b := 0x12, c := 0x34 })) 0xFFFD = 0x12 ∧
    memRead (after .push_bc (machine.setRegs { machine.regs with b := 0x12, c := 0x34 })) 0xFFFC = 0x34 ∧
    (after .push_bc machine).regs.sp = 0xFFFC := by decide

/-- W4: POP AF drops F's low nibble. -/
theorem test_pop_af :
    leaves .pop_af ((pokeBytes [0xFF, 0x12] 0xFFFC machine).setSp 0xFFFC) 0x12 0xF0 = true ∧
    (after .pop_af (machine.setSp 0xFFFC)).regs.sp = 0xFFFE := by decide

/-- W7: PUSH DE with SP = 0x0001 writes the controller and then IE. -/
theorem test_push_wraps :
    (after .push_de (machine.setRegs { machine.regs with d := 0xAB, e := 0xCD, sp := 0x0001 })).ie = 0xCD ∧
    (after .push_de (machine.setRegs { machine.regs with d := 0xAB, e := 0xCD, sp := 0x0001 })).regs.sp = 0xFFFF := by
  decide

/-! ## Vectors: arithmetic (95_test_vectors 2.3 to 2.5); rows of A in, operand, A out, F out -/

theorem test_add_d8 : List.all [(0x3A, 0xC6, 0x00, 0xB0), (0x0F, 0x01, 0x10, 0x20), (0xFF, 0x01, 0x00, 0xB0),
    (0x80, 0x80, 0x00, 0x90), (0x12, 0x34, 0x46, 0x00), (0x00, 0x00, 0x00, 0x80)]
    (fun (a, n, r, f) => leaves (.add_a_d8 n) (withAF a 0x70) r f) = true := by decide

theorem test_adc_d8 : List.all [(0x0F, 0x00, 0x10, 0x20), (0xFF, 0x00, 0x00, 0xB0), (0xE1, 0x1E, 0x00, 0xB0),
    (0x7F, 0x80, 0x00, 0xB0)]
    (fun (a, n, r, f) => leaves (.adc_a_d8 n) (withAF a 0x10) r f) = true := by decide

theorem test_sub_d8 : List.all [(0x3E, 0x3E, 0x00, 0xC0), (0x3E, 0x0F, 0x2F, 0x60), (0x3E, 0x40, 0xFE, 0x50),
    (0x10, 0x01, 0x0F, 0x60), (0x00, 0x01, 0xFF, 0x70)]
    (fun (a, n, r, f) => leaves (.sub_d8 n) (withAF a 0xB0) r f) = true := by decide

theorem test_sbc_d8 : List.all [(0x3B, 0x2A, 0x10, 0x40), (0x3B, 0x3A, 0x00, 0xC0), (0x3B, 0x4F, 0xEB, 0x70),
    (0x00, 0xFF, 0x00, 0xF0)]
    (fun (a, n, r, f) => leaves (.sbc_a_d8 n) (withAF a 0x10) r f) = true := by decide

theorem test_cp_d8 : leaves (.cp_d8 0x40) (withAF 0x3E 0x00) 0x3E 0x50 = true := by decide

theorem test_logic_d8 :
    leaves (.and_d8 0x3F) (withAF 0x5A 0xF0) 0x1A 0x20 = true ∧ leaves (.xor_d8 0x3F) (withAF 0x5A 0xF0) 0x65 0x00 = true ∧
    leaves (.or_d8 0x3F) (withAF 0x5A 0xF0) 0x7F 0x00 = true ∧ leaves (.and_d8 0xA5) (withAF 0x5A 0x00) 0x00 0xA0 = true ∧
    leaves (.xor_d8 0x00) (withAF 0x00 0x00) 0x00 0x80 = true ∧ leaves (.or_d8 0x00) (withAF 0x00 0x00) 0x00 0x80 = true := by
  decide

/-- Rows of value, F in, value after INC, F, value after DEC, F. -/
theorem test_inc_dec_a : List.all [(0x0F, 0x10, 0x10, 0x30, 0x0E, 0x50), (0xFF, 0x00, 0x00, 0xA0, 0xFE, 0x40),
    (0x00, 0x10, 0x01, 0x10, 0xFF, 0x70), (0x10, 0x00, 0x11, 0x00, 0x0F, 0x60), (0x01, 0x00, 0x02, 0x00, 0x00, 0xC0)]
    (fun (v, f, vi, fi, vd, fd) => leaves .inc_a (withAF v f) vi fi && leaves .dec_a (withAF v f) vd fd) = true := by
  decide

/-- R635, R637: INC (HL) and DEC (HL). -/
theorem test_inc_dec_atHL :
    memRead (after .inc_atHL (withHL 0xC000 0xFF)) 0xC000 = 0x00 ∧ (after .inc_atHL (withHL 0xC000 0xFF)).regs.f = 0xB0 ∧
    memRead (after .dec_atHL (withHL 0xC000 0x01)) 0xC000 = 0x00 ∧ (after .dec_atHL (withHL 0xC000 0x01)).regs.f = 0xD0 ∧
    (after .dec_atHL (withHL 0xC000 0x01)).counter = 12 := by decide

/-- DAA; rows of A in, F in, A out, F out. -/
theorem test_daa : List.all [(0x7D, 0x00, 0x83, 0x00), (0x9A, 0x00, 0x00, 0x90), (0x00, 0x30, 0x66, 0x10),
    (0x0F, 0x00, 0x15, 0x00), (0x99, 0x00, 0x99, 0x00), (0x15, 0x40, 0x15, 0x40), (0x47, 0x60, 0x41, 0x40),
    (0x2A, 0x50, 0xCA, 0x50), (0xF0, 0x10, 0x50, 0x10)]
    (fun (a, f, r, g) => leaves .daa (withAF a f) r g) = true := by decide

theorem test_cpl_scf_ccf :
    leaves .cpl (withAF 0x35 0x80) 0xCA 0xE0 = true ∧ leaves .scf (withAF 0x00 0xE0) 0x00 0x90 = true ∧
    leaves .ccf (withAF 0x00 0x90) 0x00 0x80 = true ∧ leaves .ccf (withAF 0x00 0x80) 0x00 0x90 = true := by decide

/-- ADD HL,BC from F = 0xA0; rows of HL, BC, HL out, then F under `HW_BIT11`, `LOW_BYTE` and `OMIT`. -/
theorem test_add_hl_bc : List.all [(0x8A23, 0x0605, 0x9028, 0xA0, 0x80, 0xA0), (0x0FFF, 0x0001, 0x1000, 0xA0, 0xA0, 0xA0),
    (0xFFFF, 0x0001, 0x0000, 0xB0, 0xB0, 0xB0), (0x000F, 0x0001, 0x0010, 0x80, 0xA0, 0xA0),
    (0x8000, 0x8000, 0x0000, 0x90, 0x90, 0xB0), (0xABCD, 0x1234, 0xBE01, 0x80, 0xA0, 0xA0)]
    (fun (hl, bc, r, f1, f2, f3) => List.all [(.hwBit11, f1), (.lowByte, f2), (.omitted, f3)] fun (p, f) =>
      let s : State := { machine with
        regs := ({ machine.regs with f := 0xA0 }.setRp .bc bc).setHl hl
        params := { params with add16HalfCarry := p } }
      (after .add_hl_bc s).regs.hl == r && (after .add_hl_bc s).regs.f == f) = true := by decide

/-- INC BC and DEC SP wrap. -/
theorem test_inc_dec_rp :
    (after .inc_bc (machine.setRegs (machine.regs.setRp .bc 0xFFFF))).regs.bc = 0x0000 ∧
    (after .dec_sp (machine.setSp 0x0000)).regs.sp = 0xFFFF ∧ (after .dec_sp machine).regs.f = 0xB0 := by decide

/-- SP plus a signed byte; rows of SP, e, sum, F. -/
theorem test_sp_e8 : List.all [(0xFFF8, 0x02, 0xFFFA, 0x00), (0x00FF, 0x01, 0x0100, 0x30), (0x0001, 0xFF, 0x0000, 0x30),
    (0xFFFE, 0x80, 0xFF7E, 0x10), (0x1000, 0xFF, 0x0FFF, 0x00), (0x000F, 0x01, 0x0010, 0x20)]
    (fun (sp, e, r, f) => (after (.add_sp_e8 e) (machine.setSp sp)).regs.sp == r &&
      (after (.add_sp_e8 e) (machine.setSp sp)).regs.f == f &&
      (after (.ld_hl_sp_e8 e) (machine.setSp sp)).regs.hl == r &&
      (after (.ld_hl_sp_e8 e) (machine.setSp sp)).regs.f == f) = true := by decide

/-! ## Vectors: rotates and bits (95_test_vectors 2.6) -/

/-- Rows of A, F in; then A and F after RLC, RRC, RL, RR, SLA, SRA, SWAP and SRL. -/
theorem test_cb_rotates : List.all
    [(0x85, 0x00, [(0x0B, 0x10), (0xC2, 0x10), (0x0A, 0x10), (0x42, 0x10), (0x0A, 0x10), (0xC2, 0x10), (0x58, 0x00), (0x42, 0x10)]),
     (0x01, 0x10, [(0x02, 0x00), (0x80, 0x10), (0x03, 0x00), (0x80, 0x10), (0x02, 0x00), (0x00, 0x90), (0x10, 0x00), (0x00, 0x90)]),
     (0x80, 0x00, [(0x01, 0x10), (0x40, 0x00), (0x00, 0x90), (0x40, 0x00), (0x00, 0x90), (0xC0, 0x00), (0x08, 0x00), (0x40, 0x00)]),
     (0x00, 0x10, [(0x00, 0x80), (0x00, 0x80), (0x01, 0x00), (0x80, 0x00), (0x00, 0x80), (0x00, 0x80), (0x00, 0x80), (0x00, 0x80)])]
    (fun (a, f, out) =>
      List.all ([Instr.rlc_a, .rrc_a, .rl_a, .rr_a, .sla_a, .sra_a, .swap_a, .srl_a].zip out)
        fun (i, (r, g)) => leaves i (withAF a f) r g) = true := by decide

/-- The accumulator rotates always clear Z. -/
theorem test_accumulator_rotates :
    leaves .rlca (withAF 0x00 0x00) 0x00 0x00 = true ∧ leaves .rla (withAF 0x85 0x00) 0x0A 0x10 = true ∧
    leaves .rra (withAF 0x01 0x10) 0x80 0x10 = true ∧ leaves .rrca (withAF 0x01 0x00) 0x80 0x10 = true := by decide

/-- BIT 7,H, RES 3,B, BIT 0,(HL) and SET 7,(HL). -/
theorem test_bits :
    (after .bit_7_h (machine.setRegs { machine.regs with h := 0x80, f := 0x10 })).regs.f = 0x30 ∧
    (after .bit_7_h (machine.setRegs { machine.regs with h := 0x7F, f := 0x00 })).regs.f = 0xA0 ∧
    (after .res_3_b (machine.set8 .b 0xFF)).regs.b = 0xF7 ∧ (after .bit_0_atHL (withHL 0xC000 0xFE)).regs.f = 0xB0 ∧
    memRead (after .set_7_atHL (withHL 0xC000 0x00)) 0xC000 = 0x80 ∧
    (after .set_7_atHL (withHL 0xC000 0x00)).counter = 16 ∧ (after .bit_0_atHL machine).counter = 12 := by decide

/-! ## Vectors: control flow and system (95_test_vectors 2.7, 2.8) -/

/-- J1 to J5: PC after JR from 0x0200. -/
theorem test_jr :
    (after (.jr_e8 0xFE) (machine.setPc 0x0200)).regs.pc = 0x0200 ∧
    (after (.jr_e8 0x80) (machine.setPc 0x0200)).regs.pc = 0x0182 ∧
    (after (.jr_e8 0x7F) (machine.setPc 0x0200)).regs.pc = 0x0281 ∧
    (after (.jr_nz_e8 0x05) ((withAF 0 0x80).setPc 0x0200)).regs.pc = 0x0202 ∧
    (after (.jr_nz_e8 0x05) ((withAF 0 0x80).setPc 0x0200)).counter = 8 ∧
    (after (.jr_nz_e8 0x05) ((withAF 0 0x00).setPc 0x0200)).regs.pc = 0x0207 ∧
    (after (.jr_nz_e8 0x05) ((withAF 0 0x00).setPc 0x0200)).counter = 12 := by decide

/-- J6, J7: JP HL, JP C not taken. -/
theorem test_jp :
    (after .jp_hl (withHL 0xC000 0)).regs.pc = 0xC000 ∧ (after .jp_hl (withHL 0xC000 0)).counter = 4 ∧
    (after (.jp_c_a16 0x1234) ((withAF 0 0x00).setPc 0x0300)).regs.pc = 0x0303 ∧
    (after (.jp_c_a16 0x1234) (withAF 0 0x00)).counter = 12 := by decide

/-- J8, J9: CALL, and CALL Z not taken. -/
theorem test_call :
    (after (.call_a16 0x1234) ((machine.setSp 0xD000).setPc 0x0300)).regs.pc = 0x1234 ∧
    memRead16 (after (.call_a16 0x1234) ((machine.setSp 0xD000).setPc 0x0300)) 0xCFFE = 0x0303 ∧
    (after (.call_z_a16 0x1234) ((withAF 0 0x00).setPc 0x0300)).regs.pc = 0x0303 ∧
    (after (.call_z_a16 0x1234) (withAF 0 0x00)).regs.sp = 0xFFFE := by decide

/-- J10 to J12, J14: the returns. -/
theorem test_returns :
    (after .ret ((pokeBytes [0x03, 0x03] 0xCFFE machine).setSp 0xCFFE)).regs.pc = 0x0303 ∧
    (after .ret_nz ((withAF 0 0x80).setPc 0x0200)).regs.pc = 0x0201 ∧ (after .ret_nz (withAF 0 0x80)).counter = 8 ∧
    (after .ret_nz ((pokeBytes [0x03, 0x03] 0xCFFE (withAF 0 0x00)).setSp 0xCFFE)).regs.sp = 0xD000 ∧
    (after .ret_nz (withAF 0 0x00)).counter = 20 ∧ (after .reti machine).ime = true := by decide

/-- J13: RST 38H. -/
theorem test_rst :
    (after .rst_38h (machine.setPc 0x0400)).regs.pc = 0x0038 ∧
    memRead16 (after .rst_38h (machine.setPc 0x0400)) 0xFFFC = 0x0401 := by decide

/-- S2, S3, R805: EI arms, DI clears both. -/
theorem test_ei_di :
    (after .ei machine).imeArmed = true ∧ (after .ei machine).ime = false ∧
    (after .di { machine with imeArmed := true }).imeArmed = false ∧ (after .di { machine with ime := true }).ime = false := by
  decide

/-- S1: with an interrupt pending, EI does not dispatch, the instruction after it does, to its vector. -/
theorem test_ei_delay :
    (stepped { running [0xFB] with ie := 0x04, io := machine.io.write 0x0F 0x04 }).regs.pc = 0xC001 ∧
    (stepped { running [0x00] with ie := 0x04, io := machine.io.write 0x0F 0x04, imeArmed := true }).regs.pc = 0x0050 := by
  decide +kernel

/-- S4: of STAT and timer the lower is dispatched. -/
theorem test_dispatch_priority :
    (stepped { running [0x00] with ie := 0x1F, io := machine.io.write 0x0F 0x06, ime := true }).regs.pc = 0x0048 ∧
    (stepped { running [0x00] with ie := 0x1F, io := machine.io.write 0x0F 0x06, ime := true }).ioByte 0x0F = 0x04 ∧
    (stepped { running [0x00] with ie := 0x1F, io := machine.io.write 0x0F 0x06, ime := true }).counter = 24 := by
  decide +kernel

/-- S6, S7: HALT parks with nothing pending, and waits for the next event; with one pending and IME = 0 it does not. -/
theorem test_halt :
    (after .halt machine).halted = true ∧ (stepped { machine with halted := true }).counter = 80 ∧
    (after .halt { machine with ie := 0x01 }).halted = false ∧
    (after .halt { machine with ie := 0x01, params := { params with haltBug := .repeatByte } }).haltRepeat = true := by
  decide +kernel

/-- R802, `REPEAT_BYTE`: the byte after HALT is its own operand (LD A,d8 reads 0x3E), and PC moves one byte. -/
theorem test_halt_repeat :
    (stepped { running [0x3E, 0x55] with haltRepeat := true }).regs.a = 0x3E ∧
    (stepped { running [0x3E, 0x55] with haltRepeat := true }).regs.pc = 0xC001 := by decide +kernel

/-- S8: an undefined opcode. -/
theorem test_illegal :
    (stepped (running [0xDD])).fault = some ⟨0xDD, 0xC000⟩ ∧ (stepped (running [0xDD])).regs.pc = 0xC000 ∧
    (stepped (running [0xDD])).counter = 0 ∧ (stepped (running [0xDD])).running = false := by decide +kernel

/-- S9 to S11: STOP parks; a button press wakes it; in `cgb_mode` with KEY1[0] it switches the speed. -/
theorem test_stop :
    (after (.stop 0x00) machine).stopped = true ∧ (stepped { machine with stopped := true }).counter = 0 ∧
    (stepped (buttonDown .a { running [0x00] with stopped := true })).regs.pc = 0xC001 ∧
    (after (.stop 0x00) ((memWrite machineCgb 0xFF4D 0x01).addCycles 5000)).doubleSpeed = true ∧
    memRead (after (.stop 0x00) ((memWrite machineCgb 0xFF4D 0x01).addCycles 5000)) 0xFF4D = 0xFE ∧
    (after (.stop 0x00) ((memWrite machineCgb 0xFF4D 0x01).addCycles 5000)).timer.divBase = 5000 := by decide +kernel

/-! ## Vectors: devices (95_test_vectors 2.9 to 2.14) -/

/-- T1 to T4, T6: DIV, and TIMA under TAC = 5. -/
theorem test_timer :
    memRead (machine.addCycles 0x1234) 0xFF04 = 0x12 ∧
    (memWrite (machine.addCycles 1000) 0xFF07 0x05).timer.deadline = some 5096 ∧
    memRead ((memWrite (machine.addCycles 1000) 0xFF07 0x05).addCycles 160) 0xFF05 = 0x0A ∧
    (memWrite ((memWrite (machine.addCycles 1000) 0xFF07 0x05).addCycles 1000) 0xFF05 0xFE).timer.deadline = some 2032 ∧
    (runEvent (memWrite (machine.addCycles 1000) 0xFF07 0x05) .timer 5096).timer.deadline = some 9192 := by decide

/-- M3, M5, M7: disabled cartridge RAM, a word read across the top, storage above the sprites. -/
theorem test_memory_map :
    memRead { machineOf 0x01 with mapper := machine.mapper } 0xA000 = 0xFF ∧
    memRead16 { machine with ie := 0x1F } 0xFFFF = 0x001F ∧ memRead (memWrite machine 0xFEA5 0x3C) 0xFEA5 = 0x3C := by
  decide

/-- The header tables, and B1 to B6: MBC1. -/
theorem test_header_and_mbc1 :
    romBanksOf 0x00 = some 2 ∧ romBanksOf 0x08 = none ∧ romBanksOf 0x52 = some 72 ∧ ramBanksOf 0x03 = some 4 ∧
    romHiBank (memWrite (machineOf 0x01) 0x2000 0x00) = 1 ∧ romHiBank (memWrite (machineOf 0x01) 0x2000 0x20) = 1 ∧
    romHiBank (memWrite (memWrite (machineOf 0x01) 0x2000 0x1F) 0x4000 0x03) = 0x7F ∧
    (memWrite (machineOf 0x01) 0x0000 0x1A).mapper.ramEnabled = true ∧
    (memWrite (machineOf 0x01) 0x0000 0x0B).mapper.ramEnabled = false := by decide

/-- C4, D2, D5, E2, E5: MBC2's cells, MBC3's bank 0 and RTC range, MBC5's nine bits and rumble. -/
theorem test_other_controllers :
    memRead (memWrite (machineOf 0x05) 0xA000 0xAB) 0xBE00 = 0xFB ∧
    (memWrite (machineOf 0x10) 0x2000 0x80).mapper.romBank = 1 ∧
    memRead (memWrite (machineOf 0x10) 0x4000 0x0D) 0xA000 = 0xFF ∧
    (memWrite (memWrite (machineOf 0x19) 0x2000 0x05) 0x3000 0x01).mapper.romBank = 0x105 ∧
    (memWrite (machineOf 0x1E) 0x4000 0x0F).mapper.ramBank = 7 := by decide

/-- D8 to D10: the day counter wraps with its carry; a halted clock stands; an out-of-range second does not carry. -/
theorem test_rtc :
    Rtc.tick ⟨59, 59, 23, 0xFF, 0x01⟩ = ⟨0, 0, 0, 0x00, 0x80⟩ ∧ Rtc.tick ⟨59, 59, 23, 0xFF, 0x41⟩ = ⟨59, 59, 23, 0xFF, 0x41⟩ ∧
    Rtc.tick ⟨62, 5, 0, 0, 0⟩ = ⟨63, 5, 0, 0, 0⟩ ∧ Rtc.tick ⟨63, 5, 0, 0, 0⟩ = ⟨0, 5, 0, 0, 0⟩ := by decide

/-- Reset reads (70_reset R1201) and the LCD switched off at 1000 (2.13). -/
theorem test_lcd :
    memRead machine 0xFF41 = 0x86 ∧ (memWrite (machine.addCycles 1000) 0xFF40 0x11).ppu.frameDeadlineOff = some 71224 ∧
    (memWrite (machine.addCycles 1000) 0xFF40 0x11).ppu.modeDeadline = none := by decide

/-- A tile row's indices (2.13), tile addressing below 0x9000, and BGP = 0x1B. -/
theorem test_tiles :
    (List.range 8).map (colourIndex 0x3C 0x7E) = [0, 2, 3, 3, 3, 3, 2, 0] ∧ bgTileOffset 0x10 0x80 = 0x0800 ∧
    bgTileOffset 0x00 0x80 = 0x0800 ∧ bgTileOffset 0x00 0x7F = 0x17F0 ∧ shadeOf 0x1B 1 = 2 := by decide

/-- The LFSR's first steps, sweeps and the mixer's wrap (2.14). -/
theorem test_sound_functions :
    lfsrSteps false 15 0x7FFF = 0x4000 ∧ lfsrSteps true 7 0x7FFF = 0x40C0 ∧ sweepCalc 0x11 1024 = 1536 ∧
    sweepCalc 0x19 1024 = 512 ∧ wrap8 150 = -106 ∧ wrap8 (-200) = 56 ∧ wrap8 128 = -128 := by decide

/-- NR52 (2.14): 0xF1 at reset, 0x70 after power off, 0xF0 after power on again. -/
theorem test_nr52 :
    memRead machine 0xFF26 = 0xF1 ∧ memRead (memWrite machine 0xFF26 0x00) 0xFF26 = 0x70 ∧
    memRead (memWrite (memWrite machine 0xFF26 0x00) 0xFF26 0x80) 0xFF26 = 0xF0 := by decide

/-- 10_state R121 and 55_apu R1014 under `RAW`: 0xFF15 stores while the APU is on, ignores writes while it is off, and
keeps its byte when it is powered off. -/
theorem test_unused_sound_address :
    memRead (memWrite { machine with params := { params with ioReadback := .raw } } 0xFF15 0x5A) 0xFF15 = 0x5A ∧
    memRead (memWrite { memWrite machine 0xFF26 0x00 with params := { params with ioReadback := .raw } } 0xFF15 0x5A) 0xFF15
      = 0xFF ∧
    (memWrite machine 0xFF26 0x00).ioByte 0x15 = 0xFF ∧ (memWrite machine 0xFF26 0x00).ioByte 0x14 = 0x00 := by decide

/-- 60_exceptions R1190: the run loop ends the run once, with one `stop()` call; then teardown calls `dispose()`. -/
theorem test_sink_calls :
    (teardown (runLoop 3 { machine with running := false })).host.sinkCalls = [.dispose, .stop] := by decide

/-- 25_cartridge R361: a battery cartridge without an RTC dumps its RTC bytes as they are, however late it is. -/
theorem test_dump_without_rtc :
    (dumpRtc (advanceHostTime 90 (machineOf 0x03))).toBytes = [0, 0, 0, 0, 0] ∧
    (dumpRtc (advanceHostTime 90 (machineOf 0x10))).toBytes = [30, 1, 0, 0, 0] := by decide +kernel

/-! ## Witnesses: for each statement, states and operands that meet its hypotheses -/

/-- StepRunsTheDecodedInstruction: JP at PC; and under `haltRepeat` LD A,d8 whose operand is its own opcode byte. -/
theorem witness_StepRunsTheDecodedInstruction :
    (∃ (s u t : State) (i : Instr) (o : Byte) (operands : List Byte),
      s.fault = none ∧ s.running = true ∧ u = consumeInput s ∧ u.stopped = false ∧ u.halted = false ∧ i.wf = true ∧
      encode i = o :: operands ∧ memRead u u.regs.pc = o ∧ u.haltRepeat = false ∧
      bytesAt u (u.regs.pc + 1) operands ∧ exec i u = .next t) ∧
    (∃ (s u t : State) (i : Instr) (o : Byte) (operands : List Byte),
      s.fault = none ∧ s.running = true ∧ u = consumeInput s ∧ u.stopped = false ∧ u.halted = false ∧ i.wf = true ∧
      encode i = o :: operands ∧ memRead u u.regs.pc = o ∧ u.haltRepeat = true ∧
      bytesAt u u.regs.pc operands ∧ exec i u = .next t) := by
  refine ⟨⟨running [0xC3, 0x50, 0x01], _, _, .jp_a16 0x0150, _, _, rfl, rfl, rfl, rfl, rfl, rfl, rfl, rfl, rfl, ?_, rfl⟩,
    ⟨{ running [0x3E] with haltRepeat := true }, _, _, .ld_a_d8 0x3E, _, _, rfl, rfl, rfl, rfl, rfl, rfl, rfl, rfl, rfl,
      ?_, rfl⟩⟩
  · intro k h
    match k, h with
    | 0, _ => rfl
    | 1, _ => rfl
  · intro k h
    match k, h with
    | 0, _ => rfl

/-- The frames of the test machine have their size. -/
theorem uniform_wf (p : Pixel) : Frame.wf (Frame.uniform p) :=
  ⟨by simp [Frame.uniform], by intro row h; simp [Frame.uniform] at h; simp [h]⟩

/-- ParkedStepsWait: each of its cases. -/
theorem witness_ParkedStepsWait :
    (∃ s : State, s.fault ≠ none) ∧ (∃ s : State, s.running = false) ∧
    (∃ s : State, s.fault = none ∧ s.running = true ∧ (consumeInput s).stopped = true) ∧
    (∃ s u : State, u = consumeInput s ∧ s.fault = none ∧ s.running = true ∧ u.stopped = false ∧ u.halted = true ∧
      u.ie &&& u.ioByte 0x0F &&& 0x1F ≠ 0) ∧
    (∃ (s u : State) (d : Nat) (k : EventKind), u = consumeInput s ∧ s.fault = none ∧ s.running = true ∧
      u.stopped = false ∧ u.halted = true ∧ u.ie &&& u.ioByte 0x0F &&& 0x1F = 0 ∧ nextScheduled u = some (d, k)) :=
  ⟨⟨{ machine with fault := some ⟨0xDD, 0⟩ }, by decide⟩, ⟨{ machine with running := false }, rfl⟩,
    ⟨{ machine with stopped := true }, rfl, rfl, rfl⟩,
    ⟨{ machine with halted := true, ie := 0x1F }, _, rfl, rfl, rfl, rfl, rfl, by decide⟩,
    ⟨{ machine with halted := true }, _, 80, .ppu, rfl, rfl, rfl, rfl, rfl, by decide, by decide⟩⟩

/-- The halted test machine. -/
def parked : State := { machine with halted := true }

theorem parked_display : DisplayInv parked where
  modeDeadline := by decide
  offDeadline := by decide
  lineBound := by decide
  vblankLines := by decide
  offAtRest := by decide
  backBuffer := uniform_wf _
  publishedFrame := by intro f h; cases h

theorem parked_due : NoDeadlineDue parked := by
  intro d k h
  have h' : (80, EventKind.ppu) = (d, k) := Option.some.inj h
  injection h' with h1 h2
  subst h1
  decide

theorem witness_HaltedTimeAdvances :
    ∃ s t : State, DisplayInv s ∧ NoDeadlineDue s ∧ s.fault = none ∧ s.running = true ∧ s.host.inputChanged = false ∧
      s.stopped = false ∧ s.halted = true ∧ s.ie &&& s.ioByte 0x0F &&& 0x1F = 0 ∧ step s = .next t :=
  ⟨parked, _, parked_display, parked_due, rfl, rfl, rfl, rfl, rfl, by decide, rfl⟩

theorem witness_StepKeepsMemoryCanonical : ∃ s t : State, MemoryInv s ∧ step s = .next t :=
  ⟨running [0x12, 0x34], _, by constructor <;> rfl, rfl⟩

theorem witness_StepKeepsCpuState : ∃ s t : State, CpuInv s ∧ step s = .next t :=
  ⟨running [0xFB], _, ⟨by decide, by decide, by decide⟩, rfl⟩

theorem witness_StepKeepsDisplayState : ∃ s t : State, DisplayInv s ∧ step s = .next t :=
  ⟨parked, _, parked_display, rfl⟩

/-- The first clause at the parked machine, the second with the timer running. -/
theorem witness_StepLeavesNoDeadlineDue :
    (∃ s t : State, TimerInv s ∧ NoDeadlineDue s ∧ step s = .next t) ∧
    (∃ s : State, TimerInv s ∧ NoDeadlineDue s ∧ timerActive (s.ioByte 0x07) = true) := by
  refine ⟨⟨parked, _, rfl, parked_due, rfl⟩, ⟨memWrite machine 0xFF07 0x05, rfl, ?_, rfl⟩⟩
  intro d k h
  have h' : (80, EventKind.ppu) = (d, k) := Option.some.inj h
  injection h' with h1 h2
  subst h1
  decide

theorem channel_ok {ch : Channel} {full : Nat} {d p : Bool} {v : Byte} (h1 : ch.length ≤ full) (h2 : ch.phase = 0)
    (h3 : ch.enabled = true → d = true) (h4 : ch.enabled = true → p = true) (h5 : ch.lengthEnable = bit v 6) :
    ChannelInv ch full d p v := ⟨h1, by rw [h2], by rw [h2]; decide, h3, h4, h5⟩

theorem witness_StepKeepsSoundState : ∃ s t : State, SoundInv s ∧ step s = .next t :=
  ⟨parked, _,
    ⟨channel_ok (by decide) rfl (by decide) (by decide) (by decide),
      channel_ok (by decide) rfl (by decide) (by decide) (by decide),
      channel_ok (by decide) rfl (by decide) (by decide) (by decide),
      channel_ok (by decide) rfl (by decide) (by decide) (by decide),
      ⟨by decide, by decide⟩, ⟨by decide, by decide⟩, ⟨by decide, by decide⟩, by decide, by decide⟩, rfl⟩

theorem witness_StepKeepsMapperState : ∃ s t : State, MapperInv s ∧ step s = .next t :=
  ⟨machineOf 0x10, _,
    ⟨⟨by decide, by decide, by decide⟩, by unfold Rtc.wf; decide, by unfold Rtc.wf; decide, by decide, by decide,
      by decide, by decide⟩, rfl⟩

theorem witness_ResetMeetsEveryInvariant :
    ∃ (rom : Memory) (ram : InitRam), rom.wf = true ∧ ram.cram.wf = true ∧ ram.vram.wf = true ∧ ram.wram.wf = true ∧
      ram.oam.wf = true ∧ ram.wave.wf = true ∧ ram.hram.wf = true ∧ ram.objPal.wf = true :=
  ⟨Memory.ofBytes 0x00 [0xC3, 0x00, 0x01], InitRam.filled 0x5A, by decide, rfl, rfl, rfl, rfl, rfl, rfl, rfl⟩

theorem witness_ResetValues :
    (∃ (p : Params) (s : State), s = State.atReset p (InitRam.filled 0x5A) true true (cartOf 0x1B) (Memory.empty 0xFF) ∧
      p.ioReadback = .hw) ∧ ioUnused true 0x03 = true ∧ ioUnused true 0x7F = true := ⟨⟨params, _, rfl, rfl⟩, by decide⟩

theorem witness_WhatNoStepChanges :
    (∃ s t : State, step s = .next t ∧ s.fault = none) ∧ (∃ s t : State, step s = .next t ∧ s.fault ≠ none) :=
  ⟨⟨parked, _, rfl, rfl⟩, ⟨{ machine with fault := some ⟨0xDD, 0x0150⟩ }, _, rfl, by decide⟩⟩

/-- AddAndSubtract: with the carry clear and set. -/
theorem witness_AddAndSubtract :
    (∃ (s : State) (a : Byte) (c : Nat), a = s.regs.a ∧ c = (if bit s.regs.f 4 then 1 else 0) ∧ c = 0) ∧
    (∃ (s : State) (a : Byte) (c : Nat), a = s.regs.a ∧ c = (if bit s.regs.f 4 then 1 else 0) ∧ c = 1) :=
  ⟨⟨withAF 0xFF 0x00, _, 0, rfl, rfl, rfl⟩, ⟨withAF 0xFF 0x10, _, 1, rfl, rfl, rfl⟩⟩

/-- LogicAndCompare: each of its four operations. -/
theorem witness_LogicAndCompare :
    ∃ (s : State) (a : Byte), a = s.regs.a ∧ ∀ o ∈ [AluOp.and, .xor, .or, .cp],
      ∃ (op : AluOp) (f : Byte → Byte) (w : Byte → Flags), op = o ∧
      (op = .and ∧ f = (fun v => a &&& v) ∧ w = (fun v => ⟨decide (a &&& v = 0), false, true, false⟩) ∨
       op = .xor ∧ f = (fun v => a ^^^ v) ∧ w = (fun v => ⟨decide (a ^^^ v = 0), false, false, false⟩) ∨
       op = .or ∧ f = (fun v => a ||| v) ∧ w = (fun v => ⟨decide (a ||| v = 0), false, false, false⟩) ∨
       op = .cp ∧ f = (fun _ => a) ∧ w = (fun v => subFlags a v 0)) := by
  refine ⟨machine, _, rfl, ?_⟩
  intro o h
  simp only [List.mem_cons, List.not_mem_nil, or_false] at h
  obtain rfl | rfl | rfl | rfl := h
  · exact ⟨_, _, _, rfl, .inl ⟨rfl, rfl, rfl⟩⟩
  · exact ⟨_, _, _, rfl, .inr (.inl ⟨rfl, rfl, rfl⟩)⟩
  · exact ⟨_, _, _, rfl, .inr (.inr (.inl ⟨rfl, rfl, rfl⟩))⟩
  · exact ⟨_, _, _, rfl, .inr (.inr (.inr ⟨rfl, rfl, rfl⟩))⟩

theorem witness_IncAndDecBytes :
    (∃ (s : State) (r : R8) (v : Byte), v = s.regs.get8 r ∧ v = 0xFF) ∧
    (∃ (s : State) (v : Byte), v = memRead s s.regs.hl ∧ v = 0xFF) :=
  ⟨⟨machine.set8 .b 0xFF, .b, _, rfl, rfl⟩, ⟨withHL 0xC000 0xFF, _, rfl, by decide⟩⟩

/-- AccumulatorAdjustments: N clear and N set. -/
theorem witness_AccumulatorAdjustments :
    (∃ (s : State) (n : Bool), n = bit s.regs.f 6 ∧ n = false) ∧ (∃ (s : State) (n : Bool), n = bit s.regs.f 6 ∧ n = true) :=
  ⟨⟨withAF 0x7D 0x30, _, rfl, rfl⟩, ⟨withAF 0x47 0x70, _, rfl, rfl⟩⟩

theorem witness_DaaGivesDecimalResults : (0 < 100 ∧ 0 < 100) ∧ (99 < 100 ∧ 99 < 100) := by decide

/-- SixteenBitArithmetic: each value of ADD16_HALF_CARRY. -/
theorem witness_SixteenBitArithmetic :
    ∀ v : Add16HalfCarry, ∃ s : State, s.params.add16HalfCarry = v :=
  fun v => ⟨{ machine with params := { params with add16HalfCarry := v } }, rfl⟩

theorem witness_RotateFunctionsAndAccumulatorRotates :
    ∀ p ∈ [(RotOp.rlc, Instr.rlca, (0x07 : Byte)), (.rrc, .rrca, 0x0F), (.rl, .rla, 0x17), (.rr, .rra, 0x1F)],
      ∃ (op : RotOp) (i : Instr) (o : Byte), p = (op, i, o) ∧
        (op = .rlc ∧ i = .rlca ∧ o = 0x07 ∨ op = .rrc ∧ i = .rrca ∧ o = 0x0F ∨
          op = .rl ∧ i = .rla ∧ o = 0x17 ∨ op = .rr ∧ i = .rra ∧ o = 0x1F) := by
  intro p h
  simp only [List.mem_cons, List.not_mem_nil, or_false] at h
  obtain rfl | rfl | rfl | rfl := h <;> exact ⟨_, _, _, rfl, by simp⟩

theorem witness_CbRotatesAndShifts :
    (∃ (s : State) (op : RotOp) (r : R8) (res : Byte) (out : Bool),
      (res, out) = rotate op (s.regs.get8 r) (bit s.regs.f 4)) ∧
    (∃ (s : State) (op : RotOp) (res : Byte) (out : Bool),
      (res, out) = rotate op (memRead s s.regs.hl) (bit s.regs.f 4)) :=
  ⟨⟨machine, .rl, .a, _, _, rfl⟩, ⟨withHL 0xC000 0x80, .sra, _, _, rfl⟩⟩

theorem witness_SystemInstructions : ∃ (s : State) (p : Byte), p = s.ie &&& s.ioByte 0x0F &&& 0x1F ∧ p ≠ 0 :=
  ⟨{ machine with ie := 0x01 }, _, rfl, by decide⟩

/-- RegisterLoadFrame: a register load, RES, SET and each load of A answer next. -/
theorem witness_RegisterLoadFrame : ∀ i ∈ [Instr.ldRR .b .c, .ldRd8 .e 0xFF, .ldRatHL .h, .resR .b7 .a, .setR .b0 .l,
      .ld_a_atBC, .ld_a_atDE, .ld_a_atA16 0xFFFF, .ldh_a_atA8 0xFF, .ldh_a_atC], ∃ t, exec i machine = .next t := by
  simp only [List.forall_mem_cons, List.not_mem_nil, false_implies, implies_true, and_true]
  exact ⟨⟨_, rfl⟩, ⟨_, rfl⟩, ⟨_, rfl⟩, ⟨_, rfl⟩, ⟨_, rfl⟩, ⟨_, rfl⟩, ⟨_, rfl⟩, ⟨_, rfl⟩, ⟨_, rfl⟩, ⟨_, rfl⟩⟩

/-- ArithmeticFrame: forms of each of its three destination lists. -/
theorem witness_ArithmeticFrame : ∀ i ∈ [Instr.aluR .adc .b, .aluAtHL .xor, .aluD8 .sub 0xFF, .daa, .cpl, .rra, .incR .h,
      .decR .l, .rotR .swap .d, .bitR .b7 .a, .bitAtHL .b0, .aluR .cp .a, .aluAtHL .cp, .aluD8 .cp 0, .scf, .ccf],
      ∃ t, exec i machine = .next t := by
  simp only [List.forall_mem_cons, List.not_mem_nil, false_implies, implies_true, and_true]
  exact ⟨⟨_, rfl⟩, ⟨_, rfl⟩, ⟨_, rfl⟩, ⟨_, rfl⟩, ⟨_, rfl⟩, ⟨_, rfl⟩, ⟨_, rfl⟩, ⟨_, rfl⟩, ⟨_, rfl⟩, ⟨_, rfl⟩, ⟨_, rfl⟩,
    ⟨_, rfl⟩, ⟨_, rfl⟩, ⟨_, rfl⟩, ⟨_, rfl⟩, ⟨_, rfl⟩⟩

/-- PairAndTransferFrame: a form of each of its clauses, taken and not. -/
theorem witness_PairAndTransferFrame : ∀ i ∈ [Instr.incRp .sp, .decRp .bc, .ldRpD16 .de 0xFFFF, .addHLRp .hl,
      .ld_hl_sp_e8 0x80, .add_sp_e8 0x7F, .ld_sp_hl, .ld_a_atHLi, .ld_a_atHLd, .nop, .jp_a16 0xFFFF, .jpCC .z 0,
      .jpCC .nz 0, .jp_hl, .jr_e8 0xFE, .jrCC .c 0x80, .jrCC .nc 0x80, .ret, .retCC .z, .retCC .nz, .reti, .pop .bc,
      .pop .af], ∃ t, exec i machine = .next t := by
  simp only [List.forall_mem_cons, List.not_mem_nil, false_implies, implies_true, and_true]
  exact ⟨⟨_, rfl⟩, ⟨_, rfl⟩, ⟨_, rfl⟩, ⟨_, rfl⟩, ⟨_, rfl⟩, ⟨_, rfl⟩, ⟨_, rfl⟩, ⟨_, rfl⟩, ⟨_, rfl⟩, ⟨_, rfl⟩, ⟨_, rfl⟩,
    ⟨_, rfl⟩, ⟨_, rfl⟩, ⟨_, rfl⟩, ⟨_, rfl⟩, ⟨_, rfl⟩, ⟨_, rfl⟩, ⟨_, rfl⟩, ⟨_, rfl⟩, ⟨_, rfl⟩, ⟨_, rfl⟩, ⟨_, rfl⟩, ⟨_, rfl⟩⟩

/-- ByteStoreFrame: each form answers next, at addresses that show storage bytes (system RAM, IE, high RAM). -/
theorem witness_ByteStoreFrame :
    (∀ i ∈ [Instr.ldAtHLR .a, .ld_atHL_d8 0x55, .inc_atHL, .dec_atHL, .rotAtHL .rl, .resAtHL .b7, .setAtHL .b0, .ld_atHLi_a,
      .ld_atHLd_a, .ld_atBC_a, .ld_atDE_a, .ld_atA16_a 0xFFFF, .ldh_atA8_a 0x80, .ldh_atC_a],
      ∃ t, exec i (withHL 0xC000 0x11) = .next t) ∧
    storageAt (withHL 0xC000 0x11) 0xC000 = some (.wram 0) ∧ storageAt (withHL 0xC000 0x11) 0xFFFF = some .ie ∧
    storageAt (withHL 0xC000 0x11) (joinWord 0xFF 0x80) = some (.hram 0x80) ∧
    storageAt (withHL 0xC000 0x11) 0xFDFF ≠ some (.wram 0) := by
  simp only [List.forall_mem_cons, List.not_mem_nil, false_implies, implies_true, and_true]
  exact ⟨⟨⟨_, rfl⟩, ⟨_, rfl⟩, ⟨_, rfl⟩, ⟨_, rfl⟩, ⟨_, rfl⟩, ⟨_, rfl⟩, ⟨_, rfl⟩, ⟨_, rfl⟩, ⟨_, rfl⟩, ⟨_, rfl⟩, ⟨_, rfl⟩,
    ⟨_, rfl⟩, ⟨_, rfl⟩, ⟨_, rfl⟩⟩, by decide, by decide, by decide, by decide⟩

/-- WordStoreFrame: each form answers next, with both of its addresses storage bytes. -/
theorem witness_WordStoreFrame :
    (∀ i ∈ [Instr.push .af, .call_a16 0x1234, .rst .t38, .callCC .z 0x1234, .ld_atA16_sp 0xC0FF],
      ∃ t, exec i machine = .next t) ∧
    condHolds (flagsOf machine.regs.f) .z = true ∧
    storageAt machine (machine.regs.sp - 2) = some (.hram 0xFC) ∧ storageAt machine (machine.regs.sp - 1) = some (.hram 0xFD) ∧
    storageAt machine 0xC0FF = some (.wram 0xFF) ∧ storageAt machine (0xC0FF + 1) = some (.wram 0x100) := by
  simp only [List.forall_mem_cons, List.not_mem_nil, false_implies, implies_true, and_true]
  exact ⟨⟨⟨_, rfl⟩, ⟨_, rfl⟩, ⟨_, rfl⟩, ⟨_, rfl⟩, ⟨_, rfl⟩⟩, by decide, by decide, by decide, by decide, by decide⟩

/-- EiTakesEffectAfterTheNextInstruction: an ordinary instruction and EI with IME_ARMED set, DI, and EI from rest. -/
theorem witness_EiTakesEffectAfterTheNextInstruction :
    (∃ t : State, t.fault = none) ∧
    (∀ i ∈ [Instr.nop, .ei, .halt, .reti], ∃ s t : State, s.imeArmed = true ∧ i ≠ .di ∧ t.fault = none ∧ exec i s = .next t) ∧
    (∃ s t : State, exec .di s = .next t) ∧
    (∃ s t : State, s.ime = false ∧ s.imeArmed = false ∧ exec .ei s = .next t) := by
  refine ⟨⟨machine, rfl⟩, ?_, ⟨machine, _, rfl⟩, ⟨machine, _, rfl, rfl, rfl⟩⟩
  simp only [List.forall_mem_cons, List.not_mem_nil, false_implies, implies_true, and_true]
  exact ⟨⟨{ machine with imeArmed := true }, _, rfl, by decide, rfl, rfl⟩,
    ⟨{ machine with imeArmed := true }, _, rfl, by decide, rfl, rfl⟩,
    ⟨{ machine with imeArmed := true }, _, rfl, by decide, rfl, rfl⟩,
    ⟨{ machine with imeArmed := true }, _, rfl, by decide, rfl, rfl⟩⟩

/-- InterruptCheckAndDispatch: nothing pending; pending without IME; the highest and the lowest source with IME. -/
theorem witness_InterruptCheckAndDispatch :
    (machine.ie &&& machine.ioByte 0x0F &&& 0x1F = 0) ∧
    (∃ s : State, s.ie &&& s.ioByte 0x0F &&& 0x1F ≠ 0 ∧ s.ime = false) ∧
    (∃ s : State, s.ie &&& s.ioByte 0x0F &&& 0x1F = 0x01 ∧ s.ime = true) ∧
    (∃ s : State, s.ie &&& s.ioByte 0x0F &&& 0x1F = 0x10 ∧ s.ime = true) :=
  ⟨by decide, ⟨{ machine with ie := 0x01 }, by decide, rfl⟩, ⟨{ machine with ie := 0x01, ime := true }, by decide, rfl⟩,
    ⟨{ machine with ie := 0xF0, ime := true, io := machine.io.write 0x0F 0xF0 }, by decide, rfl⟩⟩

/-- BusMapAndUnusedIo: the first and the last address of each region lie in it, and in no other; the APU on and off. -/
theorem witness_BusMapAndUnusedIo :
    List.all [(0x0000, 0), (0x3FFF, 0), (0x4000, 1), (0x7FFF, 1), (0x8000, 2), (0x9FFF, 2), (0xA000, 3), (0xBFFF, 3),
      (0xC000, 4), (0xCFFF, 4), (0xD000, 5), (0xDFFF, 5), (0xE000, 6), (0xFDFF, 6), (0xFE00, 7), (0xFEFF, 7), (0xFF00, 8),
      (0xFF7F, 8), (0xFF80, 9), (0xFFFE, 9), (0xFFFF, 10)]
      (fun ((n : Nat), (j : Nat)) => (([(0, 0x3FFF), (0x4000, 0x7FFF), (0x8000, 0x9FFF), (0xA000, 0xBFFF),
        (0xC000, 0xCFFF), (0xD000, 0xDFFF), (0xE000, 0xFDFF), (0xFE00, 0xFEFF), (0xFF00, 0xFF7F), (0xFF80, 0xFFFE),
        (0xFFFF, 0xFFFF)] : List (Nat × Nat)).zipIdx.filter fun p => decide (p.1.1 ≤ n ∧ n ≤ p.1.2)).map (·.2) == [j])
      = true ∧
    ioUnused false 0x03 = true ∧ ioUnused false 0x7F = true ∧ ioUnused false 0x00 = false ∧ ioUnused true 0x70 = false ∧
    ioUnused true 0x15 = true ∧
    (∀ r : IoReadback, ∃ s : State, s.params.ioReadback = r ∧ apuOn s = true) ∧
    (∃ s : State, s.params.ioReadback = .raw ∧ apuOn s = false) :=
  ⟨by decide, by decide, by decide, by decide, by decide, by decide,
    fun r => ⟨{ machine with params := { params with ioReadback := r } }, rfl, by cases r <;> decide⟩,
    ⟨{ memWrite machine 0xFF26 0x00 with params := { params with ioReadback := .raw } }, rfl, by decide⟩⟩

/-- LatestWriteIsRead: an address of each kind of storage, and an echo of one. -/
theorem witness_LatestWriteIsRead :
    storageAt machine 0x8000 = some (.vram 0) ∧ storageAt (machineOf 0x03) 0xBFFF = some (.cram 0x1FFF) ∧
    storageAt (machineOf 0x05) 0xA200 = some (.cram 0) ∧ storageAt machine 0xDDFF = some (.wram 0x1DFF) ∧
    storageAt machine 0xFDFF = some (.wram 0x1DFF) ∧ storageAt machine 0xFEFF = some (.oam 0xFF) ∧
    storageAt machine 0xFF30 = some (.wave 0) ∧ storageAt machine 0xFFFE = some (.hram 0xFE) ∧
    storageAt machine 0xFFFF = some .ie := by decide +kernel

/-- ControllersAndBanks: a cartridge of each kind, the ends of its ranges, and the registers its clauses speak of. -/
theorem witness_ControllersAndBanks :
    ((machineOf 0x00).cart.kind = .none ∧ (machineOf 0x03).cart.kind = .mbc1 ∧ (machineOf 0x06).cart.kind = .mbc2 ∧
      (machineOf 0x13).cart.kind = .mbc3 ∧ (machineOf 0x1E).cart.kind = .mbc5) ∧
    ((0x7FFF : Word).toNat ≤ 0x7FFF ∧ (0x5FFF : Word).toNat ≤ 0x5FFF ∧ (0x2100 : Word).getLsbD 8 = true ∧
      0x2000 ≤ (0x2100 : Word).toNat ∧ (0x3FFF : Word).toNat ≤ 0x3FFF ∧ (0x3FFF : Word).getLsbD 8 = true ∧
      (0x2000 : Word).getLsbD 8 = false) ∧
    ((machineOf 0x13).cart.hasRtc = false ∧ 0x5FFF < (0x6000 : Word).toNat) ∧
    (machineOf 0x1E).mapper.romBank < 256 ∧
    (∃ bank : Nat, (machineOf 0x03).cart.kind = .mbc1 ∧
      bank = 32 * (machineOf 0x03).mapper.ramBank + (machineOf 0x03).mapper.romBank) ∧
    (∃ bank : Nat, (machineOf 0x1E).cart.kind = .mbc5 ∧ bank = (machineOf 0x1E).mapper.romBank) :=
  ⟨by decide, by decide, by decide, by decide, ⟨_, by decide, rfl⟩, ⟨_, by decide, rfl⟩⟩

/-- CartridgeRamWindow: each of its clauses at an end of the window. -/
theorem witness_CartridgeRamWindow :
    (0xA000 ≤ (0xA000 : Word).toNat ∧ (0xBFFF : Word).toNat ≤ 0xBFFF) ∧
    (∃ s : State, s.cart.kind ≠ .none ∧ s.mapper.ramEnabled = false) ∧ (∃ s : State, s.cart.cartType = 0x00) ∧
    (∃ (s : State) (bank : Nat), s.mapper.ramEnabled = true ∧ s.cart.kind = .mbc1 ∧
      bank = (if s.mapper.mbc1Mode then s.mapper.ramBank else 0) ∧ bank < s.cart.ramBanks) ∧
    (∃ (s : State) (bank : Nat), s.mapper.ramEnabled = true ∧ s.cart.kind = .mbc3 ∧ bank = s.mapper.ramBank ∧ bank < 8 ∧
      s.cart.ramBanks ≤ bank) ∧
    (∃ s : State, s.mapper.ramEnabled = true ∧ s.cart.kind = .mbc3 ∧ s.cart.hasRtc = false ∧ s.mapper.ramBank = 8) ∧
    (∃ (s : State) (bank : Nat), s.mapper.ramEnabled = true ∧ s.cart.kind = .mbc5 ∧ bank = s.mapper.ramBank ∧
      bank < s.cart.ramBanks) ∧
    (∃ s : State, s.cart.cartType = 0x08) ∧ (∃ s : State, s.cart.cartType = 0x09) ∧
    (∃ s : State, s.mapper.ramEnabled = true ∧ s.cart.kind = .mbc2) :=
  ⟨by decide, ⟨{ machineOf 0x01 with mapper := machine.mapper }, by decide, rfl⟩, ⟨machineOf 0x00, rfl⟩,
    ⟨machineOf 0x03, _, rfl, by decide, rfl, by decide⟩,
    ⟨memWrite (machineOf 0x13) 0x4000 0x07, 7, by decide, by decide, by decide, by decide, by decide⟩,
    ⟨memWrite (machineOf 0x13) 0x4000 0x08, by decide, by decide, by decide, by decide⟩,
    ⟨memWrite (machineOf 0x1B) 0x4000 0x03, 3, by decide, by decide, by decide, by decide⟩,
    ⟨machineOf 0x08, rfl⟩, ⟨machineOf 0x09, rfl⟩, ⟨machineOf 0x06, rfl, by decide⟩⟩

/-- RealTimeClock: a running clock at its last second and a halted one; latching, not latching, a register, no register. -/
theorem witness_RealTimeClock :
    (∃ r : Rtc, bit r.dh 6 = true) ∧
    (∃ r : Rtc, bit r.dh 6 = false ∧ r.s.toNat < 60 ∧ r.m.toNat < 60 ∧ r.h.toNat < 24 ∧ r.dl = 0xFF ∧ r.dh = 0x01) ∧
    ((machineOf 0x10).cart.kind = .mbc3 ∧ (machineOf 0x10).cart.hasRtc = true ∧ 0x6000 ≤ (0x6000 : Word).toNat ∧
      (0x7FFF : Word).toNat ≤ 0x7FFF) ∧
    (∃ s : State, s.cart.kind = .mbc3 ∧ s.cart.hasRtc = true ∧ s.mapper.rtcLatchPrev = 0x00) ∧
    (∃ s : State, s.cart.kind = .mbc3 ∧ s.cart.hasRtc = true ∧ s.mapper.rtcLatchPrev ≠ 0x00) ∧
    (∃ (s : State) (j : Nat), s.mapper.ramEnabled = true ∧ j ≤ 4 ∧ s.mapper.ramBank = 8 + j ∧ j = 4) ∧
    (∃ s : State, s.mapper.ramEnabled = true ∧ 8 + 5 ≤ s.mapper.ramBank) :=
  ⟨⟨⟨0, 0, 0, 0, 0x40⟩, by decide⟩, ⟨⟨59, 59, 23, 0xFF, 0x01⟩, by decide⟩, by decide,
    ⟨memWrite (machineOf 0x10) 0x6000 0x00, by decide, by decide, by decide⟩,
    ⟨machineOf 0x10, by decide, by decide, by decide⟩, ⟨memWrite (machineOf 0x10) 0x4000 0x0C, 4, by decide⟩,
    ⟨memWrite (machineOf 0x10) 0x4000 0x0D, by decide⟩⟩

/-- BatteryDumpRoundTrip: an MBC3 and an MBC2 cartridge. -/
theorem witness_BatteryDumpRoundTrip :
    (∃ s t u : State, t.cart = s.cart ∧ Rtc.wf s.mapper.rtc ∧ s.host.time < 2 ^ 64 ∧ u = importDump (exportDump s) t ∧
      s.cart.kind ≠ .mbc2 ∧ 0 < s.cart.ramBanks * 8192) ∧
    (∃ s t u : State, t.cart = s.cart ∧ Rtc.wf s.mapper.rtc ∧ s.host.time < 2 ^ 64 ∧ u = importDump (exportDump s) t ∧
      s.cart.kind = .mbc2 ∧ 1 ≤ s.cart.ramBanks) :=
  ⟨⟨machineOf 0x10, machineOf 0x10, _, rfl, by unfold Rtc.wf; decide, by decide, rfl, by decide, by decide⟩,
    ⟨machineOf 0x06, machineOf 0x06, _, rfl, by unfold Rtc.wf; decide, by decide, rfl, by decide, by decide⟩⟩

/-- TimerAndDivider: the timer stopped and running. -/
theorem witness_TimerAndDivider :
    (∃ (s : State) (tima : Byte), bit (s.ioByte 0x07) 2 = false ∧ tima = s.timer.timaBase) ∧
    (∃ (s : State) (tima : Byte), bit (s.ioByte 0x07) 2 = true ∧
      tima = BitVec.ofNat 8 (s.timer.timaBase.toNat + (s.counter - s.timer.base) / 16)) :=
  ⟨⟨machine, _, by decide, rfl⟩, ⟨memWrite machine 0xFF07 0x05, _, by decide, rfl⟩⟩

theorem witness_SerialTransfers : ∃ (s t : State) (d : Nat), t = runEvent s .serial d ∧ s.serialDeadline = some d :=
  ⟨memWrite machine 0xFF02 0x81, _, 4096, rfl, by decide⟩

/-- JoypadLinesAndInput: a pressed and a released button, the flag set and clear. -/
theorem witness_JoypadLinesAndInput :
    (∃ (s : State) (k : Button), s.host.buttons.get k = false ∧ s.host.inputChanged = false) ∧
    (∃ (s : State) (k : Button), s.host.buttons.get k = true ∧ s.host.inputChanged = true) :=
  ⟨⟨machine, .a, rfl, rfl⟩, ⟨buttonDown .start machine, .start, rfl, rfl⟩⟩

/-- DmaTransfers: OAM DMA; HDMA inactive and active with the fewest and the most blocks; a source outside VRAM. -/
theorem witness_DmaTransfers :
    (∃ (s t : State) (v : Byte), t = memWrite s 0xFF46 v) ∧
    (∃ (s : State) (v : Byte), s.cgbMode = true ∧ s.hdma.active = false ∧ bit v 7 = false ∧
      ∀ i : Nat, i < 16 → (s.hdma.src + BitVec.ofNat 16 i).toNat < 0x8000 ∨
        0xA000 ≤ (s.hdma.src + BitVec.ofNat 16 i).toNat) ∧
    (∃ s : State, s.cgbMode = true ∧ s.hdma.active = true ∧ s.hdma.remaining = 1) ∧
    (∃ s : State, s.cgbMode = true ∧ s.hdma.active = true ∧ s.hdma.remaining = 128) ∧
    (∃ s : State, s.cgbMode = true ∧ s.hdma.active = false ∧ s.hdma.remaining ≠ 0) :=
  ⟨⟨machine, _, 0xC0, rfl⟩, ⟨machineCgb, 0x00, by decide, by decide, by decide, by decide⟩,
    ⟨memWrite machineCgb 0xFF55 0x80, by decide, by decide, by decide⟩,
    ⟨memWrite machineCgb 0xFF55 0xFF, by decide, by decide, by decide⟩,
    ⟨memWrite (memWrite machineCgb 0xFF55 0xFF) 0xFF55 0x00, by decide, by decide, by decide⟩⟩

/-- The test machine in a mode and on a line. -/
def atLine (m : PpuMode) (ly : Byte) : State := { machine with ppu := { machine.ppu with mode := m, ly := ly } }

/-- ModeEvents: each mode, at the lines where its clauses meet. -/
theorem witness_ModeEvents :
    List.all [(PpuMode.search, 0), (.transfer, 143), (.hblank, 142), (.hblank, 143), (.vblank, 152), (.vblank, 153)]
      (fun (m, ly) => lcdOn (atLine m ly) && decide ((atLine m ly).ppu.mode = m) && (atLine m ly).ppu.ly == ly) = true := by
  decide

/-- A run of mode events, each at its own deadline. -/
def modeTrace : Nat → State
  | 0 => machine
  | n + 1 => modeEvent (modeTrace n) ((modeTrace n).ppu.modeDeadline.getD 0)

theorem modeEvent_deadline (s : State) (d : Nat) : ∃ e, (modeEvent s d).ppu.modeDeadline = some e := by
  have hirq : ∀ (u : State) (b : Bool) (k : Nat), (requestIrqIf u b k).ppu = u.ppu := by
    intro u b k
    unfold requestIrqIf
    split <;> rfl
  unfold modeEvent
  split
  · exact ⟨_, rfl⟩
  · unfold modeEvent3
    dsimp only
    split
    · rw [hdmaBlock_only]
      exact ⟨_, by rw [hirq]; rfl⟩
    · exact ⟨_, by rw [hirq]; rfl⟩
  · unfold modeEvent0
    dsimp only
    split
    · unfold enterVblank
      dsimp only
      rw [apuFrameTick_only]
      exact ⟨d + 456 * speedFactor (setLy s (s.ppu.ly + 1)), by simp [publishFrame, hirq, requestIrq, State.setIo, enterMode]⟩
    · exact ⟨_, by unfold enterSearch; rw [hirq]; rfl⟩
  · unfold modeEvent1
    split
    · exact ⟨_, by unfold enterSearch; rw [hirq]; rfl⟩
    · exact ⟨_, rfl⟩

theorem witness_FrameTakesSeventyThousandCycles :
    ∃ (trace : Nat → State) (d k : Nat), k = (if (trace 0).doubleSpeed then 2 else 1) ∧ lcdOn (trace 0) = true ∧
      (trace 0).ppu.mode = .search ∧ (trace 0).ppu.ly = 0 ∧ (trace 0).ppu.modeDeadline = some d ∧
      ∀ n, ∃ e, (trace n).ppu.modeDeadline = some e ∧ trace (n + 1) = modeEvent (trace n) e := by
  refine ⟨modeTrace, 80, 1, rfl, by decide, rfl, rfl, rfl, ?_⟩
  intro n
  have h : ∃ e, (modeTrace n).ppu.modeDeadline = some e := by
    cases n with
    | zero => exact ⟨80, rfl⟩
    | succ n => exact modeEvent_deadline _ _
  obtain ⟨e, he⟩ := h
  exact ⟨e, he, by simp [modeTrace, he]⟩

/-- LcdRegisterWrites: the LCD on and off, LCDC values with bit 7 set and clear; in `cgb_mode` the last palette index, with
and without the auto-increment. -/
theorem witness_LcdRegisterWrites :
    (lcdOn machine = true ∧ bit 0x11 7 = false ∧ bit 0x91 7 = true) ∧
    (∃ (s t : State) (d : Nat), lcdOn s = false ∧ t = runEvent s .ppu d ∧ s.ppu.frameDeadlineOff = some d) ∧
    (∃ s : State, s.cgbMode = true ∧ s.ioByte 0x68 = 0xBF ∧ s.ioByte 0x6A = 0x3F) :=
  ⟨by decide, ⟨memWrite machine 0xFF40 0x11, _, 70224, by decide, rfl, by decide⟩,
    ⟨memWrite (memWrite machineCgb 0xFF68 0xBF) 0xFF6A 0x3F, by decide, by decide, by decide⟩⟩

/-- 10_state R110: BCPD written at index 63 with the auto-increment, then at index 0. -/
theorem test_palette_data :
    memRead (memWrite (memWrite machineCgb 0xFF68 0xBF) 0xFF69 0x12) 0xFF68 = 0xC0 ∧
    (memWrite (memWrite machineCgb 0xFF68 0xBF) 0xFF69 0x12).bgPal.read 63 = 0x12 := by decide

/-- RenderingWritesOneRow: the first and the last line; a background pixel outside the window; the ends of a tile row. -/
theorem witness_RenderingWritesOneRow :
    (∃ (s t : State) (ly : Byte), Frame.wf s.ppu.backBuffer ∧ ly.toNat < 144 ∧ t = renderLine s ly ∧ ly = 0) ∧
    (∃ (s t : State) (ly : Byte), Frame.wf s.ppu.backBuffer ∧ ly.toNat < 144 ∧ t = renderLine s ly ∧ ly = 143) ∧
    (∃ (s : State) (ly : Byte) (px : Nat), bgDisabled s = false ∧ windowCovers s ly px = false ∧ s.cgbMode = false ∧
      px = 159) :=
  ⟨⟨machine, _, 0, uniform_wf _, by decide, rfl, rfl⟩, ⟨machine, _, 143, uniform_wf _, by decide, rfl, rfl⟩,
    ⟨machine, 143, 159, by decide, by decide, rfl, rfl⟩⟩

/-- A sprite on line 0 at columns 0 to 7 over an opaque tile; with attribute bit 7 set it is background-priority. -/
def withSprite (attr : Byte) : State :=
  pokeBytes [0xFF, 0xFF] 0x8010 (pokeBytes [0x10, 0x08, 0x01, attr] 0xFE00 (memWrite machine 0xFF40 0x93))

/-- SpritesAndCompositor: sprites enabled under both limits and disabled; an opaque foreground, an opaque background-priority
and no sprite; and, in `cgb_mode`, a priority tile's opaque pixel. -/
theorem witness_SpritesAndCompositor :
    (∀ v : SpriteLineLimit, ∃ s : State, bit (s.ioByte 0x40) 1 = true ∧ s.params.spriteLineLimit = v) ∧
    bit (machine.ioByte 0x40) 1 = false ∧
    (∃ (s : State) (o : Sprite), spritesOnLine s 0 = [o] ∧ o.foreground s = true ∧ o.opaqueAt s 0 0 = true) ∧
    (∃ (s : State) (o : Sprite), spritesOnLine s 0 = [o] ∧ o.foreground s = false ∧ o.opaqueAt s 0 0 = true ∧
      (bgPixelAt s 0 0).index = 0) ∧
    (spritesOnLine machine 0 = []) ∧
    (∃ s : State, s.cgbMode = true ∧ bit (s.ioByte 0x40) 0 = true ∧ bit (bgPixelAt s 0 0).attr 7 = true ∧
      (bgPixelAt s 0 0).index ≠ 0) :=
  ⟨fun v => ⟨{ memWrite machine 0xFF40 0x93 with params := { params with spriteLineLimit := v } }, by cases v <;> decide +kernel, rfl⟩,
    by decide,
    ⟨withSprite 0x00, ⟨0x10, 0x08, 0x01, 0x00⟩, by decide +kernel, by decide +kernel, by decide +kernel⟩,
    ⟨withSprite 0x80, ⟨0x10, 0x08, 0x01, 0x80⟩, by decide +kernel, by decide +kernel, by decide +kernel, by decide +kernel⟩,
    by decide +kernel,
    ⟨{ machineCgb with vram := ⟨0x00, [(0, 0xFF), (0x3800, 0x80)]⟩ }, by decide +kernel, by decide +kernel,
      by decide +kernel, by decide +kernel⟩⟩

/-- SoundTriggersAndPower: the APU on and off, each powered to the other, values with bit 7 set and clear, the ends of the register range. -/
theorem witness_SoundTriggersAndPower :
    (apuOn machine = true ∧ bit 0x80 7 = true ∧ bit 0x7F 7 = false ∧ machine.params.ioReadback = .hw) ∧
    (∃ (s : State) (k : Nat), apuOn s = false ∧ 0x10 ≤ k ∧ k ≤ 0x25 ∧ unusedIo k = false ∧ k = 0x10) ∧
    (unusedIo 0x25 = false ∧ bit 0x00 7 = false) ∧
    (∃ (s : State) (v : Byte), apuOn s = bit v 7 ∧ bit v 7 = false) ∧
    (∃ (s t : State) (v : Byte), apuOn s = false ∧ bit v 7 = true ∧ t = memWrite s 0xFF26 v) :=
  ⟨by decide, ⟨memWrite machine 0xFF26 0x00, 0x10, by decide, by decide⟩, by decide,
    ⟨memWrite machine 0xFF26 0x00, 0x00, by decide, by decide⟩,
    ⟨memWrite machine 0xFF26 0x00, _, 0x80, by decide, by decide, rfl⟩⟩

/-- The test machine with channel 1 triggered at frequency 0x7FF or 0x400 under NR10 = `nr10` and NR12 = `nr12`. -/
def sounding (nr10 nr12 : Byte) (x : Word) : State :=
  memWrite (memWrite (memWrite (memWrite machine 0xFF10 nr10) 0xFF12 nr12) 0xFF13 (lowByte x)) 0xFF14 (0x80 ||| highByte x)

/-- SoundFrameTick: the APU off; an envelope held, counting and stepping; a sweep held, counting, and running out with
an overflow, with shift 0 and with a new frequency. -/
theorem witness_SoundFrameTick :
    (∃ s : State, apuOn s = false) ∧
    (apuOn (sounding 0x11 0xF0 0x400) = true ∧ (sounding 0x11 0xF0 0x400).apu.ch1.enabled = true ∧
      ((sounding 0x11 0xF0 0x400).ioByte 0x12).toNat % 8 = 0 ∧
      ((sounding 0x11 0xF0 0x400).ioByte 0x10).toNat / 16 % 8 = 1 ∧
      sweepCalc ((sounding 0x11 0xF0 0x400).ioByte 0x10) (sounding 0x11 0xF0 0x400).apu.shadowFreq ≤ 2047) ∧
    ((sounding 0x70 0xF3 0x7FF).apu.env1.timer + 1 < ((sounding 0x70 0xF3 0x7FF).ioByte 0x12).toNat % 8 ∧
      (sounding 0x70 0xF3 0x7FF).apu.sweepTimer + 1 < ((sounding 0x70 0xF3 0x7FF).ioByte 0x10).toNat / 16 % 8) ∧
    (((sounding 0x10 0xF1 0x7FF).ioByte 0x12).toNat % 8 ≤ (sounding 0x10 0xF1 0x7FF).apu.env1.timer + 1 ∧
      ((sounding 0x10 0xF1 0x7FF).ioByte 0x10).toNat % 8 = 0 ∧ (sounding 0x10 0xF1 0x7FF).apu.ch1.enabled = true ∧
      2047 < sweepCalc ((sounding 0x10 0xF1 0x7FF).ioByte 0x10) (sounding 0x10 0xF1 0x7FF).apu.shadowFreq) ∧
    ((sounding 0x00 0xF1 0x7FF).ioByte 0x10).toNat / 16 % 8 = 0 ∧
    (((sounding 0x10 0xF1 0x001).ioByte 0x10).toNat % 8 = 0 ∧ (sounding 0x10 0xF1 0x001).apu.ch1.enabled = true ∧
      sweepCalc ((sounding 0x10 0xF1 0x001).ioByte 0x10) (sounding 0x10 0xF1 0x001).apu.shadowFreq ≤ 2047) :=
  ⟨⟨memWrite machine 0xFF26 0x00, by decide⟩, by decide, by decide, by decide, by decide, by decide⟩

/-- GeneratorsAndMixer: a silent channel of each kind, and the ends of wave RAM. -/
theorem witness_GeneratorsAndMixer :
    (∃ s : State, (s.apu.ch1.enabled && envDacOn (s.ioByte 0x12)) = false ∧
      (s.apu.ch2.enabled && envDacOn (s.ioByte 0x17)) = false ∧ (s.apu.ch3.enabled && waveDacOn (s.ioByte 0x1A)) = false ∧
      (s.apu.ch4.enabled && envDacOn (s.ioByte 0x21)) = false) ∧ 0 < 32 ∧ 31 < 32 :=
  ⟨⟨memWrite machine 0xFF26 0x00, by decide⟩, by decide⟩

/-- An image of 32 KiB of zeros. -/
def smallImage : List Byte := List.replicate 0x8000 0x00

theorem zeros_getD (n a : Nat) : (List.replicate n (0x00 : Byte)).getD a 0x00 = 0x00 := by
  by_cases h : a < n <;> simp [h]

theorem smallImage_loads (h : HostSide) : load params (InitRam.filled 0x00) true smallImage none h =
    .ok { State.atReset params (InitRam.filled 0x00) true false { cartType := 0x00, romBanks := 2, ramBanks := 1 }
      (Memory.ofBytes 0x00 (smallImage.take 0x8000)) with host := h.afterReset } := by
  have hb : ∀ a, imageByte smallImage a = 0x00 := fun a => zeros_getD 0x8000 a
  have hl : smallImage.length = 0x8000 := List.length_replicate ..
  simp only [load, loadCartridge, gbcCapable, hb, hl]
  rfl

/-- LifeOfARun: running, not started and ended machines; a step that records a fault. -/
theorem witness_LifeOfARun :
    (∃ s : State, s.running = true) ∧ (∃ s : State, s.running = false ∧ s.runEnded = true) ∧
    (∃ s : State, s.running = false ∧ s.runEnded = false) ∧ (∃ s t : State, stopRun s = .ok t) ∧
    (∃ s t : State, step s = .next t ∧ s.running = true ∧ t.running = false ∧ s.fault = none ∧ t.fault ≠ none) ∧
    (∃ (h : HostSide) (s : State), h.time = 7 ∧ load params (InitRam.filled 0x00) true smallImage none h = .ok s) :=
  ⟨⟨machine, rfl⟩, ⟨{ machine with running := false, runEnded := true }, rfl, rfl⟩, ⟨{ machine with running := false }, rfl, rfl⟩,
    ⟨machine, _, rfl⟩, ⟨running [0xDD], _, rfl, rfl, rfl, rfl, by decide⟩,
    ⟨{ HostSide.atReset with time := 7 }, _, rfl, smallImage_loads _⟩⟩

end Sys2Proof.Tests
end

section
/-! SUPPORT and proof of O15. What the bus shows of an I/O register, and the reset table of 70_reset R1201. -/

namespace Sys2Proof.Proofs

open Sys2Proof.Machine

/-! ## I/O registers on the bus -/

/-- The bus reads the register file at 0xFF00..0xFF7F (20_memory R211). -/
theorem memRead_io (s : State) {a : Word} (hlo : 0xFF00 ≤ a.toNat) (hhi : a.toNat < 0xFF80) :
    memRead s a = ioRead s (a.toNat - 0xFF00) := by
  have below : ∀ n, n ≤ 0xFF00 → ¬ a.toNat < n := fun n hn => by omega
  have hplace : placeOf s a = .io (a.toNat - 0xFF00) := by simp [placeOf, below, hhi]
  unfold memRead
  rw [hplace]
  rfl

/-- An unused address reads 0xFF under `HW` (10_state R62, R121). -/
theorem ioRead_unused (s : State) {k : Nat} (hw : s.params.ioReadback = .hw) (hu : ioUnused s.cgbMode k = true) :
    ioRead s k = 0xFF := by
  simp [ioRead, hu, hw]

/-! ## The reset table -/

/-- The post-boot registers of both modes in one record (10_state R57). -/
theorem regs_atReset (cgb : Bool) : Regs.atReset cgb =
    { a := if cgb then 0x11 else 0x01, f := if cgb then 0x80 else 0xB0, b := 0x00, c := if cgb then 0x00 else 0x13,
      d := if cgb then 0xFF else 0x00, e := if cgb then 0x56 else 0xD8, h := if cgb then 0x00 else 0x01,
      l := if cgb then 0x0D else 0x4D, sp := 0xFFFE, pc := 0x0100 } := by
  cases cgb <;> rfl

section
variable (p : Params) (ram : InitRam) (gbc cgb : Bool) (cart : Cartridge) (rom : Memory)

/-- Every background palette entry is white, 0x7FFF, low byte first. -/
theorem bgPal_atReset : ∀ k, k < 32 →
    (State.atReset p ram gbc cgb cart rom).bgPal.read (2 * k) = 0xFF ∧
    (State.atReset p ram gbc cgb cart rom).bgPal.read (2 * k + 1) = 0x7F := by
  change ∀ k, k < 32 → Memory.read ⟨0xFF, (List.range 32).map fun k => (2 * k + 1, 0x7F)⟩ (2 * k) = 0xFF ∧
    Memory.read ⟨0xFF, (List.range 32).map fun k => (2 * k + 1, 0x7F)⟩ (2 * k + 1) = 0x7F
  decide

/-- The stored bytes of the table (P1, SC, TAC, IF, LCDC and STAT). -/
theorem ioByte_atReset :
    (State.atReset p ram gbc cgb cart rom).ioByte 0x00 = 0xC0 ∧
    (State.atReset p ram gbc cgb cart rom).ioByte 0x02 = (if cgb then 0x7F else 0x7E) ∧
    (State.atReset p ram gbc cgb cart rom).ioByte 0x07 = 0x00 ∧
    (State.atReset p ram gbc cgb cart rom).ioByte 0x0F = 0x01 ∧
    (State.atReset p ram gbc cgb cart rom).ioByte 0x40 = 0x91 ∧
    (State.atReset p ram gbc cgb cart rom).ioByte 0x41 = 0x80 := by
  have hio : ∀ k, (State.atReset p ram gbc cgb cart rom).ioByte k = (resetIo cgb).read k := fun _ => rfl
  simp only [hio]
  cases cgb <;> decide

/-- RP, BCPS, OCPS and SVBK. -/
theorem read_resetIo_cgb : (resetIo true).read 0x56 = 0x00 ∧ (resetIo true).read 0x68 = 0x00 ∧
    (resetIo true).read 0x6A = 0x00 ∧ (resetIo true).read 0x70 = 0x00 := by decide

/-! ## What the I/O registers read after reset under `HW`

All but wave RAM and OCPD, whose contents are the initial RAM's, read the same on every machine of a mode; so each row
of the table is read off one plain machine. -/

/-- The registers that show nothing of the initial RAM contents. -/
def showsNoRam (a : Word) : Bool :=
  decide (0xFF00 ≤ a.toNat ∧ a.toNat < 0xFF80 ∧ ¬ (0xFF30 ≤ a.toNat ∧ a.toNat ≤ 0xFF3F) ∧ a.toNat ≠ 0xFF6B)

/-- A machine after reset with empty memory, without a controller. -/
def plainReset (cgb : Bool) : State :=
  State.atReset
    { add16HalfCarry := .hwBit11, haltBug := .none, ioReadback := .hw, spriteLineLimit := .ten, mixFormat := .stereoS8,
      rtcUnit := .seconds, sampleRate := 1024 }
    (InitRam.filled 0x00) false cgb { cartType := 0x00, romBanks := 2, ramBanks := 1 } (Memory.empty 0x00)

/-- The machine after reset with `IO_READBACK` = `HW`. -/
def resetHw : State := State.atReset { p with ioReadback := .hw } ram gbc cgb cart rom

/-- A register that shows no RAM reads as on the plain machine: of `ioReadReg`'s arms only OCPD's and the last, which
has wave RAM, look at an array that differs. -/
theorem ioRead_resetHw {k : Nat} (hwave : ¬ (0x30 ≤ k ∧ k ≤ 0x3F)) (hocpd : k ≠ 0x6B) :
    ioRead (resetHw p ram gbc cgb cart rom) k = ioRead (plainReset cgb) k := by
  have hreg : ioReadReg (resetHw p ram gbc cgb cart rom) k = ioReadReg (plainReset cgb) k := by
    unfold ioReadReg
    split
    case h_11 => exact absurd rfl hocpd
    case h_12 => rw [if_neg hwave, if_neg hwave]; rfl
    all_goals rfl
  have hunused : ioUnused (resetHw p ram gbc cgb cart rom).cgbMode k = ioUnused (plainReset cgb).cgbMode k := rfl
  unfold ioRead
  rw [hreg, hunused]
  rfl

theorem memRead_resetHw {a : Word} (ha : showsNoRam a = true) :
    memRead (resetHw p ram gbc cgb cart rom) a = memRead (plainReset cgb) a := by
  obtain ⟨hlo, hhi, hwave, hocpd⟩ := of_decide_eq_true ha
  rw [memRead_io _ hlo hhi, memRead_io _ hlo hhi]
  exact ioRead_resetHw p ram gbc cgb cart rom (by omega) (by omega)

/-- A row of the reset table, read off the plain machine. -/
theorem map_memRead_resetHw {l : List Word} {bytes : List Byte} (hl : l.all showsNoRam = true)
    (hb : l.map (memRead (plainReset cgb)) = bytes) : l.map (memRead (resetHw p ram gbc cgb cart rom)) = bytes :=
  (List.map_congr_left fun a ha => memRead_resetHw p ram gbc cgb cart rom (List.all_eq_true.mp hl a ha)).trans hb

/-- P1, SB, SC, DIV, TIMA, TMA, TAC and IF. -/
theorem memRead_resetHw_low :
    [0xFF00, 0xFF01, 0xFF02, 0xFF04, 0xFF05, 0xFF06, 0xFF07, 0xFF0F].map (memRead (resetHw p ram gbc cgb cart rom)) =
      [0xCF, 0x00, if cgb then 0x7F else 0x7E, 0x00, 0x00, 0x00, 0xF8, 0xE1] :=
  map_memRead_resetHw p ram gbc cgb cart rom (by decide) (by cases cgb <;> decide)

/-- NR10 to NR24. -/
theorem memRead_resetHw_pulse :
    [0xFF10, 0xFF11, 0xFF12, 0xFF13, 0xFF14, 0xFF16, 0xFF17, 0xFF18, 0xFF19].map
      (memRead (resetHw p ram gbc cgb cart rom)) = [0x80, 0xBF, 0xF3, 0xFF, 0xBF, 0x3F, 0x00, 0xFF, 0xBF] :=
  map_memRead_resetHw p ram gbc cgb cart rom (by decide) (by cases cgb <;> decide)

/-- NR30 to NR52. -/
theorem memRead_resetHw_waveNoiseControl :
    [0xFF1A, 0xFF1B, 0xFF1C, 0xFF1D, 0xFF1E, 0xFF20, 0xFF21, 0xFF22, 0xFF23, 0xFF24, 0xFF25, 0xFF26].map
      (memRead (resetHw p ram gbc cgb cart rom)) =
      [0x7F, 0xFF, 0x9F, 0xFF, 0xBF, 0xFF, 0x00, 0x00, 0xBF, 0x77, 0xF3, 0xF1] :=
  map_memRead_resetHw p ram gbc cgb cart rom (by decide) (by cases cgb <;> decide)

/-- LCDC to WX. -/
theorem memRead_resetHw_lcd :
    [0xFF40, 0xFF41, 0xFF42, 0xFF43, 0xFF44, 0xFF45, 0xFF46, 0xFF47, 0xFF48, 0xFF49, 0xFF4A, 0xFF4B].map
      (memRead (resetHw p ram gbc cgb cart rom)) =
      [0x91, 0x86, 0x00, 0x00, 0x00, 0x00, 0xFF, 0xFC, 0xFF, 0xFF, 0x00, 0x00] :=
  map_memRead_resetHw p ram gbc cgb cart rom (by decide) (by cases cgb <;> decide)

/-- KEY1, VBK, HDMA1 to HDMA5, RP and SVBK, in `cgb_mode`. -/
theorem memRead_resetHw_cgb :
    [0xFF4D, 0xFF4F, 0xFF51, 0xFF52, 0xFF53, 0xFF54, 0xFF55, 0xFF56, 0xFF70].map
      (memRead (resetHw p ram gbc true cart rom)) = [0x7E, 0xFE, 0xFF, 0xFF, 0xFF, 0xFF, 0xFF, 0x3E, 0xF8] :=
  map_memRead_resetHw p ram gbc true cart rom (by decide) (by decide)

theorem memRead_resetHw_unused {k : Nat} (hk : k ≤ 0x7F) (hu : ioUnused cgb k = true) :
    memRead (resetHw p ram gbc cgb cart rom) (0xFF00 + BitVec.ofNat 16 k) = 0xFF := by
  have ha : (0xFF00 + BitVec.ofNat 16 k : Word).toNat = 0xFF00 + k := by bv_omega
  rw [memRead_io _ (by omega) (by omega), ha, Nat.add_sub_cancel_left]
  exact ioRead_unused _ rfl hu

variable {p}

/-- Every machine after reset whose `IO_READBACK` is `HW` is of this form. -/
theorem atReset_eq_resetHw (hw : p.ioReadback = .hw) :
    State.atReset p ram gbc cgb cart rom = resetHw p ram gbc cgb cart rom := by
  unfold resetHw
  rw [← hw]

end

/-- Settles O15: the fields stand in `State.atReset` as the table gives them; the registers, the palette and the bytes
the I/O addresses read are the lemmas above. -/
theorem resetValues : Obligations.ResetValues := by
  unfold Obligations.ResetValues
  rintro p ram gbc cgb cart rom s rfl
  have hregs : (State.atReset p ram gbc cgb cart rom).regs = _ := regs_atReset cgb
  obtain ⟨joyp, sc, tac, irq, lcdc, stat⟩ := ioByte_atReset p ram gbc cgb cart rom
  refine ⟨?sp, ?pc, ?f, ?a, ?b, ?c, ?d, ?e, ?h, ?l, ?rest⟩
  case rest =>
    refine ⟨rfl, rfl, rfl, rfl, rfl, rfl, rfl, rfl, rfl, rfl, rfl, rfl, rfl, rfl, rfl, ?timerOff, ?timerPeriod,
      ?reads, ?p1, sc, tac, irq, ?stat, rfl, ?cgbStored, bgPal_atReset p ram gbc cgb cart rom,
      rfl, rfl, rfl, rfl, rfl, rfl, rfl, rfl, rfl, rfl, rfl, rfl, rfl, rfl, rfl, rfl, rfl, rfl, rfl,
      ?lcdOn, rfl, rfl, rfl, rfl, rfl, rfl, rfl, rfl, rfl, rfl⟩
    case reads =>
      intro hw
      rw [atReset_eq_resetHw ram gbc cgb cart rom hw]
      exact ⟨memRead_resetHw_low .., memRead_resetHw_pulse .., memRead_resetHw_waveNoiseControl ..,
        memRead_resetHw_lcd .., fun hcgb => by subst hcgb; exact memRead_resetHw_cgb ..,
        fun k hk => memRead_resetHw_unused p ram gbc cgb cart rom hk⟩
    case timerOff => rw [tac]; decide
    case timerPeriod => rw [tac]; decide
    case p1 => rw [joyp]; decide
    case stat => rw [stat]; decide
    case lcdOn => rw [lcdOn, lcdc]; decide
    case cgbStored =>
      rintro rfl
      exact read_resetIo_cgb
  all_goals simp only [hregs]

end Sys2Proof.Proofs
end

section
/-! SUPPORT and proofs of O44 and O45. The cartridge on the bus: what a write to 0x0000..0x7FFF leaves in the controller,
what 0x4000..0x7FFF reads, and what the window 0xA000..0xBFFF shows (25_cartridge R320 to R354). -/

namespace Sys2Proof.Proofs

open Sys2Proof.Machine

/-! ## The cartridge's regions on the bus -/

section
variable (s : State) {a : Word}

theorem memRead_romLow (h : a.toNat ≤ 0x3FFF) : memRead s a = romRead s 0 a.toNat := by
  have hplace : placeOf s a = .rom (romIndex s 0 a.toNat) := if_pos (Nat.lt_succ_of_le h)
  unfold memRead
  rw [hplace]
  rfl

theorem placeOf_romHigh (hlo : 0x4000 ≤ a.toNat) (hhi : a.toNat ≤ 0x7FFF) :
    placeOf s a = .rom (romIndex s (romHiBank s) (a.toNat - 0x4000)) := by
  simp [placeOf, show ¬ a.toNat < 0x4000 by omega, show a.toNat < 0x8000 by omega]

theorem memRead_romHigh {b : Word} (h : b.toNat ≤ 0x3FFF) : memRead s (b + 0x4000) = romRead s (romHiBank s) b.toNat := by
  have hb : (b + 0x4000 : Word).toNat = b.toNat + 0x4000 := by bv_omega
  unfold memRead
  rw [placeOf_romHigh s (by omega) (by omega), hb, Nat.add_sub_cancel]
  rfl

/-- Every write to 0x0000..0x7FFF goes to the controller (20_memory R205). -/
theorem memWrite_rom (v : Byte) (h : a.toNat ≤ 0x7FFF) : memWrite s a v = mbcWrite s a.toNat v := by
  have hplace : ∃ k, placeOf s a = .rom k := by
    by_cases hlo : 0x4000 ≤ a.toNat
    · exact ⟨_, placeOf_romHigh s hlo h⟩
    · exact ⟨_, if_pos (Nat.lt_of_not_le hlo)⟩
  obtain ⟨k, hk⟩ := hplace
  unfold memWrite
  rw [hk]
  rfl

theorem placeOf_cartRam (hlo : 0xA000 ≤ a.toNat) (hhi : a.toNat ≤ 0xBFFF) : placeOf s a = .cartRam (a.toNat - 0xA000) := by
  have below : ∀ n, n ≤ 0xA000 → ¬ a.toNat < n := fun n hn => by omega
  simp [placeOf, below, show a.toNat < 0xC000 by omega]

theorem memRead_cartRam (hlo : 0xA000 ≤ a.toNat) (hhi : a.toNat ≤ 0xBFFF) :
    memRead s a = cartRamRead s (a.toNat - 0xA000) := by
  unfold memRead
  rw [placeOf_cartRam s hlo hhi]
  rfl

theorem memWrite_cartRam (v : Byte) (hlo : 0xA000 ≤ a.toNat) (hhi : a.toNat ≤ 0xBFFF) :
    memWrite s a v = cartRamWrite s (a.toNat - 0xA000) v := by
  unfold memWrite
  rw [placeOf_cartRam s hlo hhi]
  rfl

end

/-! ## The controllers' registers -/

/-- The model writes a range's end as an exclusive bound, the obligation as an inclusive one. -/
theorem lt_rangeEnds (n : Nat) : (n < 0x2000 ↔ n ≤ 0x1FFF) ∧ (n < 0x3000 ↔ n ≤ 0x2FFF) ∧ (n < 0x4000 ↔ n ≤ 0x3FFF) ∧
    (n < 0x6000 ↔ n ≤ 0x5FFF) := by omega

theorem ramEnableValue_eq (v : Byte) : ramEnableValue v = decide (v &&& 0x0F = 0x0A) := rfl

theorem coerceBank_toNat (v : Byte) : coerceBank v.toNat = if v = 0 then 1 else v.toNat := by
  have hzero : v.toNat = 0 ↔ v = 0 := by bv_omega
  simp only [coerceBank, hzero]

/-- Keeping the low `k` bits of a byte reduces it mod `2 ^ k`. -/
theorem toNat_and_lowBits (v : Byte) (k : Nat) (hk : k ≤ 8) :
    (v &&& BitVec.ofNat 8 (2 ^ k - 1)).toNat = v.toNat % 2 ^ k := by
  have hlt : 2 ^ k - 1 < 2 ^ 8 := by
    have := Nat.pow_le_pow_right (n := 2) (by decide) hk
    omega
  rw [BitVec.toNat_and, BitVec.toNat_ofNat, Nat.mod_eq_of_lt hlt, Nat.and_two_pow_sub_one_eq_mod]

section
variable (m : Mapper) (n : Nat) (v : Byte)

/-- 25_cartridge R327. -/
theorem mbc1Write_ranges : mbc1Write m n v =
    if n ≤ 0x1FFF then { m with ramEnabled := decide (v &&& 0x0F = 0x0A) }
    else if n ≤ 0x3FFF then { m with romBank := if v &&& 0x1F = 0 then 1 else (v &&& 0x1F).toNat }
    else if n ≤ 0x5FFF then { m with ramBank := v.toNat % 4 }
    else { m with mbc1Mode := bit v 0 } := by
  obtain ⟨h2, _, h4, h6⟩ := lt_rangeEnds n
  have hbank : (v &&& 0x03).toNat = v.toNat % 4 := toNat_and_lowBits v 2 (by decide)
  simp only [mbc1Write, h2, h4, h6, ramEnableValue_eq, coerceBank_toNat, hbank]

/-- 25_cartridge R331: below 0x4000 bit 8 of the address chooses the register. -/
theorem mbc2Write_ranges (a : Word) : mbc2Write m a.toNat v =
    if 0x4000 ≤ a.toNat then m
    else if a.getLsbD 8 = true then { m with romBank := if v &&& 0x0F = 0 then 1 else (v &&& 0x0F).toNat }
    else { m with ramEnabled := decide (v &&& 0x0F = 0x0A) } := by
  have hbit : a.toNat.testBit 8 = a.getLsbD 8 := rfl
  simp only [mbc2Write, ← Nat.not_le, ite_not, hbit, ramEnableValue_eq, coerceBank_toNat]

/-- 25_cartridge R340, below the latch range. -/
theorem mbc3Write_ranges : mbc3Write m n v =
    if n ≤ 0x1FFF then { m with ramEnabled := decide (v &&& 0x0F = 0x0A) }
    else if n ≤ 0x3FFF then { m with romBank := if v &&& 0x7F = 0 then 1 else (v &&& 0x7F).toNat }
    else { m with ramBank := v.toNat } := by
  obtain ⟨h2, _, h4, _⟩ := lt_rangeEnds n
  simp only [mbc3Write, h2, h4, ramEnableValue_eq, coerceBank_toNat]

/-- 25_cartridge R352. -/
theorem mbc5Write_ranges (rumble : Bool) : mbc5Write m rumble n v =
    if n ≤ 0x1FFF then { m with ramEnabled := decide (v &&& 0x0F = 0x0A) }
    else if n ≤ 0x2FFF then { m with romBank := 256 * (m.romBank / 256) + v.toNat }
    else if n ≤ 0x3FFF then { m with romBank := 256 * (v.toNat % 2) + m.romBank % 256 }
    else if n ≤ 0x5FFF then { m with ramBank := if rumble then v.toNat % 8 else v.toNat % 16 }
    else m := by
  obtain ⟨h2, h3, h4, h6⟩ := lt_rangeEnds n
  have hbank : (v &&& if rumble then 0x07 else 0x0F).toNat = if rumble then v.toNat % 8 else v.toNat % 16 := by
    cases rumble
    · exact toNat_and_lowBits v 4 (by decide)
    · exact toNat_and_lowBits v 3 (by decide)
  simp only [mbc5Write, h2, h3, h4, h6, ramEnableValue_eq, hbank, Nat.mul_comm 256]

end

section
variable {s : State} (n : Nat) (v : Byte)

theorem mbcWrite_none (hk : s.cart.kind = .none) : mbcWrite s n v = s := by simp only [mbcWrite, hk]

theorem mbcWrite_mbc1 (hk : s.cart.kind = .mbc1) : mbcWrite s n v = { s with mapper := mbc1Write s.mapper n v } := by
  simp only [mbcWrite, hk]

theorem mbcWrite_mbc2 (hk : s.cart.kind = .mbc2) : mbcWrite s n v = { s with mapper := mbc2Write s.mapper n v } := by
  simp only [mbcWrite, hk]

theorem mbcWrite_mbc5 (hk : s.cart.kind = .mbc5) :
    mbcWrite s n v = { s with mapper := mbc5Write s.mapper s.cart.rumble n v } := by
  simp only [mbcWrite, hk]

variable {n}

theorem mbcWrite_mbc3 (hk : s.cart.kind = .mbc3) (hn : n ≤ 0x5FFF) :
    mbcWrite s n v = { s with mapper := mbc3Write s.mapper n v } := by
  simp only [mbcWrite, hk, if_pos (Nat.lt_succ_of_le hn)]

/-- Without an RTC the latch range only records the byte (25_cartridge R340). -/
theorem mbcWrite_mbc3_latch (hk : s.cart.kind = .mbc3) (hrtc : s.cart.hasRtc = false) (hn : ¬ n ≤ 0x5FFF) :
    mbcWrite s n v = { s with mapper := { s.mapper with rtcLatchPrev := v } } := by
  simp [mbcWrite, hk, mbc3Latch, hrtc, show ¬ n < 0x6000 by omega]

end

/-! ## Bank 0 -/

/-- 25_cartridge R322: the ROM bank register of MBC1, MBC2 and MBC3 cannot tell a 0 from a 1. -/
theorem mbcWrite_zero_eq_one {s : State} {n : Nat} (hlo : 0x2000 ≤ n) (hhi : n ≤ 0x3FFF)
    (hk : s.cart.kind = .mbc1 ∨ s.cart.kind = .mbc2 ∧ n.testBit 8 = true ∨ s.cart.kind = .mbc3) :
    mbcWrite s n 0 = mbcWrite s n 1 := by
  have h2 : ¬ n < 0x2000 := by omega
  have h4 : n < 0x4000 := by omega
  obtain hk | ⟨hk, hbit⟩ | hk := hk
  · simp only [mbcWrite_mbc1 _ _ hk, mbc1Write, if_neg h2, if_pos h4]
    rfl
  · simp only [mbcWrite_mbc2 _ _ hk, mbc2Write, if_pos h4, if_pos hbit]
    rfl
  · simp only [mbcWrite_mbc3 _ hk (by omega : n ≤ 0x5FFF), mbc3Write, if_neg h2, if_pos h4]
    rfl

/-- 25_cartridge R352 and R353: a 0 in the low part of MBC5's register selects bank 0, with the high bit clear. -/
theorem romHiBank_mbc5_zero {s : State} {n : Nat} (hk : s.cart.kind = .mbc5) (hbank : s.mapper.romBank < 256)
    (hlo : 0x2000 ≤ n) (hhi : n ≤ 0x2FFF) : romHiBank (mbcWrite s n 0) = 0 := by
  have hmap : mbc5Write s.mapper s.cart.rumble n 0 = { s.mapper with romBank := 0 } := by
    rw [mbc5Write_ranges, if_neg (by omega), if_pos hhi, Nat.div_eq_of_lt hbank]
    rfl
  rw [mbcWrite_mbc5 _ _ hk, hmap]
  simp only [romHiBank, hk]

theorem romRead_mbcWrite_mbc5 {s : State} (hk : s.cart.kind = .mbc5) (n : Nat) (v : Byte) (bank off : Nat) :
    romRead (mbcWrite s n v) bank off = romRead s bank off := by
  rw [mbcWrite_mbc5 _ _ hk]
  rfl

/-! ## The window 0xA000..0xBFFF -/

section
variable {s : State} {a : Word} (v : Byte) {off k : Nat}
  (hlo : 0xA000 ≤ a.toNat) (hhi : a.toNat ≤ 0xBFFF) (hoff : off = a.toNat - 0xA000)
include hlo hhi hoff

theorem window_absent (h : cartRamTarget s off = .absent) : memRead s a = 0xFF ∧ memWrite s a v = s := by
  rw [memRead_cartRam s hlo hhi, memWrite_cartRam s v hlo hhi, ← hoff]
  simp only [cartRamRead, cartRamWrite, h, and_self]

theorem window_ram (h : cartRamTarget s off = .ram k) :
    memRead s a = s.cram.read k ∧ memWrite s a v = { s with cram := s.cram.write k v } := by
  rw [memRead_cartRam s hlo hhi, memWrite_cartRam s v hlo hhi, ← hoff]
  simp only [cartRamRead, cartRamWrite, h, and_self]

theorem window_nibble (h : cartRamTarget s off = .nibble k) :
    memRead s a = 0xF0 ||| s.cram.read k ∧ memWrite s a v = { s with cram := s.cram.write k (v &&& 0x0F) } := by
  rw [memRead_cartRam s hlo hhi, memWrite_cartRam s v hlo hhi, ← hoff]
  simp only [cartRamRead, cartRamWrite, h, and_self]

end

section
variable {s : State} (off : Nat)

theorem cartRamTarget_disabled (hk : s.cart.kind ≠ .none) (he : s.mapper.ramEnabled = false) :
    cartRamTarget s off = .absent := by
  unfold cartRamTarget
  cases h : s.cart.kind with
  | none => exact absurd h hk
  | _ => simp only [he, Bool.false_eq_true, if_false]

theorem cartRamTarget_romOnly (ht : s.cart.cartType = 0x00) : cartRamTarget s off = .absent := by
  have hk : s.cart.kind = .none := by rw [Cartridge.kind, ht]; rfl
  have hp : s.cart.plainRam = false := by rw [Cartridge.plainRam, ht]; rfl
  simp only [cartRamTarget, hk, hp, Bool.false_eq_true, if_false]

/-- 25_cartridge R306: types 0x08 and 0x09 have their RAM at once. -/
theorem cartRamTarget_plainRam (ht : s.cart.cartType = 0x08 ∨ s.cart.cartType = 0x09) :
    cartRamTarget s off = .ram off := by
  have hk : s.cart.kind = .none := by
    obtain ht | ht := ht <;> rw [Cartridge.kind, ht] <;> rfl
  have hp : s.cart.plainRam = true := by
    obtain ht | ht := ht <;> rw [Cartridge.plainRam, ht] <;> rfl
  simp only [cartRamTarget, hk, hp, if_true]

/-- Enabled RAM of MBC1, MBC3 (bank numbers below 8) and MBC5 is that of the selected bank (25_cartridge R330, R354). -/
theorem cartRamTarget_banked {bank : Nat} (he : s.mapper.ramEnabled = true)
    (hk : s.cart.kind = .mbc1 ∧ bank = (if s.mapper.mbc1Mode then s.mapper.ramBank else 0) ∨
      s.cart.kind = .mbc3 ∧ bank = s.mapper.ramBank ∧ bank < 8 ∨ s.cart.kind = .mbc5 ∧ bank = s.mapper.ramBank) :
    cartRamTarget s off = ramBankTarget s bank off := by
  obtain ⟨hk, rfl⟩ | ⟨hk, rfl, hlt⟩ | ⟨hk, rfl⟩ := hk
  · simp only [cartRamTarget, hk, he, if_true]
  · simp only [cartRamTarget, hk, he, if_true, if_pos hlt]
  · simp only [cartRamTarget, hk, he, if_true]

/-- Without an RTC, MBC3's bank numbers from 8 on select nothing, whether or not RAM is enabled. -/
theorem cartRamTarget_mbc3_noRtc (hk : s.cart.kind = .mbc3) (hrtc : s.cart.hasRtc = false) (hb : 8 ≤ s.mapper.ramBank) :
    cartRamTarget s off = .absent := by
  simp [cartRamTarget, hk, hrtc, Nat.not_lt.mpr hb]

theorem cartRamTarget_mbc2 (he : s.mapper.ramEnabled = true) (hk : s.cart.kind = .mbc2) :
    cartRamTarget s off = .nibble (off % 512) := by
  simp only [cartRamTarget, hk, he, if_true]

end

/-- Settles O45: each case names what the window shows (`cartRamTarget`), and the window's lemma says how that reads and
stores. -/
theorem cartridgeRamWindow : Obligations.CartridgeRamWindow := by
  unfold Obligations.CartridgeRamWindow
  intro s a v off bank hlo hhi hoff
  refine ⟨?disabled, ?romOnly, ?banked, ?noRtc, ?plain, ?mbc2⟩
  case disabled =>
    exact fun hk he => window_absent v hlo hhi hoff (cartRamTarget_disabled off hk he)
  case romOnly =>
    exact fun ht => window_absent v hlo hhi hoff (cartRamTarget_romOnly off ht)
  case banked =>
    intro he hk
    have htarget := cartRamTarget_banked off he hk
    exact ⟨fun hin => window_ram v hlo hhi hoff (htarget.trans (if_pos hin)),
      fun hout => window_absent v hlo hhi hoff (htarget.trans (if_neg (Nat.not_lt.mpr hout)))⟩
  case noRtc =>
    exact fun hk hrtc hb => window_absent v hlo hhi hoff (cartRamTarget_mbc3_noRtc off hk hrtc hb)
  case plain =>
    exact fun ht => window_ram v hlo hhi hoff (cartRamTarget_plainRam off ht)
  case mbc2 =>
    exact fun he hk => window_nibble v hlo hhi hoff (cartRamTarget_mbc2 off he hk)

/-- Settles O44: on the bus the ranges are the controller's (`memWrite_rom`), whose registers the `_ranges` lemmas give;
the reads at 0x4000 are of `romHiBank`. -/
theorem controllersAndBanks : Obligations.ControllersAndBanks := by
  unfold Obligations.ControllersAndBanks
  refine ⟨?ranges, ?zeroIsOne, ?mbc5Zero, ?highBank⟩
  case ranges =>
    rintro s a v _ _ rfl hn rfl
    rw [memWrite_rom s v hn]
    refine ⟨mbcWrite_none _ _, fun hk => ?_, fun hk => ?_, fun hk hlatch => ?_, fun hk => ?_⟩
    · rw [mbcWrite_mbc1 _ _ hk, mbc1Write_ranges]
    · rw [mbcWrite_mbc2 _ _ hk, mbc2Write_ranges]
    · by_cases hlow : a.toNat ≤ 0x5FFF
      · simp only [mbcWrite_mbc3 _ hk hlow, mbc3Write_ranges, if_pos hlow]
      · rw [mbcWrite_mbc3_latch _ hk (hlatch.resolve_left hlow) hlow, if_neg (by omega), if_neg (by omega), if_neg hlow]
    · rw [mbcWrite_mbc5 _ _ hk, mbc5Write_ranges]
  case zeroIsOne =>
    intro s a hlo hhi hk
    rw [memWrite_rom s 0 (by omega), memWrite_rom s 1 (by omega)]
    exact mbcWrite_zero_eq_one hlo hhi hk
  case mbc5Zero =>
    intro s a b hk hbank hlo hhi hb
    calc memRead (memWrite s a 0) (b + 0x4000)
      _ = romRead (mbcWrite s a.toNat 0) 0 b.toNat := by
          rw [memWrite_rom s 0 (by omega), memRead_romHigh _ hb, romHiBank_mbc5_zero hk hbank hlo hhi]
      _ = romRead s 0 b.toNat := romRead_mbcWrite_mbc5 hk ..
      _ = memRead s b := (memRead_romLow s hb).symm
  case highBank =>
    intro s b bank hb hsel
    have hbank : romHiBank s = bank := by
      obtain ⟨hk, rfl⟩ | ⟨hk | hk | hk, rfl⟩ | ⟨hk, rfl⟩ := hsel
      · simp only [romHiBank, hk, Nat.mul_comm]
      all_goals simp only [romHiBank, hk]
    rw [memRead_romHigh s hb, hbank]
    rfl

end Sys2Proof.Proofs
end

section
/-! SUPPORT and proofs of O17 and O18. The 8-bit loads (40_load8): how bytes are shown to encode an instruction, and the
one next state of each shared load and store, as the statements write it. -/

namespace Sys2Proof.Proofs

open Sys2Proof.Machine

/-! ## Encodings from the base opcode map (30_encoding R405, R406) -/

section
variable {o : Byte}

theorem encodes_of_op {i : Instr} (h : Decode.baseTable[o.toNat]? = some (.op i)) : encodes [o] i := by
  intro rest
  simp only [List.cons_append, List.nil_append, decode, h]

theorem encodes_of_imm8 {f : Byte → Instr} (h : Decode.baseTable[o.toNat]? = some (.imm8 f)) (n : Byte) :
    encodes [o, n] (f n) := by
  intro rest
  simp only [List.cons_append, List.nil_append, decode, h]

theorem encodes_of_imm16 {f : Word → Instr} (h : Decode.baseTable[o.toNat]? = some (.imm16 f)) (nn : Word) :
    encodes [o, lowByte nn, highByte nn] (f nn) := by
  intro rest
  simp only [List.cons_append, List.nil_append, decode, h, joinWord_bytes]

end

theorem baseTable_ldRR (dst src : R8) : Decode.baseTable[(opcode 1 dst.index src.index).toNat]? =
    some (.op (Instr.ldRR dst src)) := by
  cases dst <;> cases src <;> rfl

theorem baseTable_ldRd8 (dst : R8) : Decode.baseTable[(opcode 0 dst.index 6).toNat]? =
    some (.imm8 (Instr.ldRd8 dst)) := by
  cases dst <;> rfl

theorem baseTable_ldRatHL (dst : R8) : Decode.baseTable[(opcode 1 dst.index 6).toNat]? =
    some (.op (Instr.ldRatHL dst)) := by
  cases dst <;> rfl

theorem baseTable_ldAtHLR (r : R8) : Decode.baseTable[(opcode 1 6 r.index).toNat]? = some (.op (Instr.ldAtHLR r)) := by
  cases r <;> rfl

/-! ## Reading from a state whose PC and counter have moved -/

section
variable (s : State) (len cost : Nat)

/-- The effect of an instruction sees PC past it and the counter not yet moved (00_scope R21, R22). -/
theorem instruction_eq_ran (effect : State → State) :
    instruction len cost effect s = .next ((effect (ran s len 0)).addCycles cost) := rfl

theorem memRead_ran (a : Word) : memRead (ran s len 0) a = memRead s a := rfl

theorem opnd8_read_ran (o : Opnd8) : o.read (ran s len 0) = o.read s := by
  cases o with
  | reg r => cases r <;> rfl
  | atHL => exact memRead_ran ..
  | imm n => rfl

theorem memForm_addr_ran (m : MemForm) : m.addr (ran s len 0) = m.addr s := by
  cases m <;> rfl

/-! ## The shared loads and stores -/

theorem opLd8_reg (dst : R8) (src : Opnd8) :
    opLd8 len cost (.reg dst) src s = .next ((ran s len cost).set8 dst (src.read s)) := by
  rw [opLd8, instruction_eq_ran, opnd8_read_ran]
  rfl

theorem opLd8_atHL (src : Opnd8) : opLd8 len cost .atHL src s = .next (stored s len cost s.regs.hl (src.read s)) := by
  rw [opLd8, instruction_eq_ran, opnd8_read_ran]
  rfl

theorem opLoadA_eq (m : MemForm) :
    opLoadA len cost m s = .next ((ran s len cost).set8 .a (memRead s (m.addr s))) := by
  rw [opLoadA, instruction_eq_ran, memForm_addr_ran, memRead_ran]
  rfl

theorem opStoreA_eq (m : MemForm) : opStoreA len cost m s = .next (stored s len cost (m.addr s) s.regs.a) := by
  rw [opStoreA, instruction_eq_ran, memForm_addr_ran]
  rfl

/-- 40_load8 R516 and R517: A is loaded from the old HL, then HL moves by `k`. -/
theorem opLoadAStep_eq (k : Word) : opLoadAStep k s = .next ((ran s 1 8).setRegs
    ({ (ran s 1 8).regs with a := memRead s s.regs.hl }.setHl (s.regs.hl + k))) := rfl

/-- 40_load8 R518 and R519: the store at the old HL leaves the registers alone, then HL moves by `k`. -/
theorem opStoreAStep_eq (k : Word) : opStoreAStep k s = .next ((stored s 1 8 s.regs.hl s.regs.a).setRegs
    ((ran s 1 8).regs.setHl (s.regs.hl + k))) := by
  rw [opStoreAStep, instruction_eq_ran, stepHl, (memWrite_keeps ..).regs]
  rfl

end

/-! ## The instructions that are families over the registers -/

section
variable (s : State)

theorem exec_ldRR (dst src : R8) : exec (Instr.ldRR dst src) s = opLd8 1 4 (.reg dst) (.reg src) s := by
  cases dst <;> cases src <;> rfl

theorem exec_ldRd8 (dst : R8) (n : Byte) : exec (Instr.ldRd8 dst n) s = opLd8 2 8 (.reg dst) (.imm n) s := by
  cases dst <;> rfl

theorem exec_ldRatHL (dst : R8) : exec (Instr.ldRatHL dst) s = opLd8 1 8 (.reg dst) .atHL s := by
  cases dst <;> rfl

theorem exec_ldAtHLR (r : R8) : exec (Instr.ldAtHLR r) s = opLd8 1 8 .atHL (.reg r) s := by
  cases r <;> rfl

end

/-! ## The statements -/

/-- The high page: joining 0xFF with a byte adds the byte to 0xFF00 (30_encoding R403). -/
theorem joinWord_highPage (n : Byte) : joinWord 0xFF n = 0xFF00 + n.setWidth 16 := by
  have happ : (joinWord 0xFF n).toNat = 0xFF00 + n.toNat := by
    rw [joinWord, BitVec.toNat_append, ← Nat.shiftLeft_add_eq_or_of_lt n.isLt]
    rfl
  bv_omega

/-- Settles O17: every form is one of the shared loads, whose next state is known for all operands. -/
theorem eightBitLoads : Obligations.EightBitLoads := by
  unfold Obligations.EightBitLoads
  refine ⟨fun s => ⟨?regReg, ?regImm, ?regMem, ?memReg, ?memImm⟩,
    fun s => ⟨?loadUp, ?loadDown, ?storeUp, ?storeDown⟩⟩
  case regReg =>
    exact fun dst src => ⟨encodes_of_op (baseTable_ldRR dst src), (exec_ldRR s dst src).trans (opLd8_reg ..)⟩
  case regImm =>
    exact fun dst n => ⟨encodes_of_imm8 (baseTable_ldRd8 dst) n, (exec_ldRd8 s dst n).trans (opLd8_reg ..)⟩
  case regMem =>
    exact fun dst => ⟨encodes_of_op (baseTable_ldRatHL dst), (exec_ldRatHL s dst).trans (opLd8_reg ..)⟩
  case memReg =>
    exact fun r => ⟨encodes_of_op (baseTable_ldAtHLR r), (exec_ldAtHLR s r).trans (opLd8_atHL ..)⟩
  case memImm =>
    exact fun n => ⟨encodes_of_imm8 (f := .ld_atHL_d8) rfl n, opLd8_atHL ..⟩
  case loadUp => exact ⟨encodes_of_op rfl, opLoadAStep_eq s 1⟩
  case loadDown =>
    rw [BitVec.sub_eq_add_neg]
    exact ⟨encodes_of_op rfl, opLoadAStep_eq s (-1)⟩
  case storeUp => exact ⟨encodes_of_op rfl, opStoreAStep_eq s 1⟩
  case storeDown =>
    rw [BitVec.sub_eq_add_neg]
    exact ⟨encodes_of_op rfl, opStoreAStep_eq s (-1)⟩

/-- Settles O18: ten uses of the two shared operations; the high-page forms join 0xFF with the byte. -/
theorem loadsAndStoresOfA : Obligations.LoadsAndStoresOfA := by
  unfold Obligations.LoadsAndStoresOfA
  intro s n nn
  rw [← joinWord_highPage n, ← joinWord_highPage s.regs.c]
  refine ⟨?loadBC, ?loadDE, ?storeBC, ?storeDE, ?loadAbs, ?storeAbs, ?loadHigh, ?storeHigh, ?loadHighC, ?storeHighC⟩
  case loadBC => exact ⟨encodes_of_op rfl, opLoadA_eq s 1 8 .atBC⟩
  case loadDE => exact ⟨encodes_of_op rfl, opLoadA_eq s 1 8 .atDE⟩
  case storeBC => exact ⟨encodes_of_op rfl, opStoreA_eq s 1 8 .atBC⟩
  case storeDE => exact ⟨encodes_of_op rfl, opStoreA_eq s 1 8 .atDE⟩
  case loadAbs => exact ⟨encodes_of_imm16 (f := .ld_a_atA16) rfl nn, opLoadA_eq s 3 16 (.abs nn)⟩
  case storeAbs => exact ⟨encodes_of_imm16 (f := .ld_atA16_a) rfl nn, opStoreA_eq s 3 16 (.abs nn)⟩
  case loadHigh => exact ⟨encodes_of_imm8 (f := .ldh_a_atA8) rfl n, opLoadA_eq s 2 12 (.high n)⟩
  case storeHigh => exact ⟨encodes_of_imm8 (f := .ldh_atA8_a) rfl n, opStoreA_eq s 2 12 (.high n)⟩
  case loadHighC => exact ⟨encodes_of_op rfl, opLoadA_eq s 1 8 .highC⟩
  case storeHighC => exact ⟨encodes_of_op rfl, opStoreA_eq s 1 8 .highC⟩

end Sys2Proof.Proofs
end

section
/-! SUPPORT and proofs of O19 and O20. The 16-bit loads and the stack (41_load16): the one next state of each shared
operation, as the statements write it. -/

namespace Sys2Proof.Proofs

open Sys2Proof.Machine

/-! ## The instructions that are families over the register pairs -/

theorem baseTable_ldRpD16 (r : Rp) : Decode.baseTable[(opcode 0 (2 * r.index) 1).toNat]? =
    some (.imm16 (Instr.ldRpD16 r)) := by
  cases r <;> rfl

theorem baseTable_push (r : Rp2) : Decode.baseTable[(opcode 3 (2 * r.index) 5).toNat]? = some (.op (Instr.push r)) := by
  cases r <;> rfl

theorem baseTable_pop (r : Rp2) : Decode.baseTable[(opcode 3 (2 * r.index) 1).toNat]? = some (.op (Instr.pop r)) := by
  cases r <;> rfl

section
variable (s : State)

theorem exec_ldRpD16 (r : Rp) (nn : Word) : exec (Instr.ldRpD16 r nn) s = opLdRp r nn s := by
  cases r <;> rfl

theorem exec_push (r : Rp2) : exec (Instr.push r) s = opPush r s := by
  cases r <;> rfl

theorem exec_pop (r : Rp2) : exec (Instr.pop r) s = opPop r s := by
  cases r <;> rfl

end

/-! ## SP plus a signed displacement (41_load16 R554) -/

/-- Keeping the low `k` bits of a word of any width reduces it mod `2 ^ k`. -/
theorem toNat_and_lowMask {w k : Nat} (v : BitVec w) (hk : k ≤ w) :
    (v &&& BitVec.ofNat w (2 ^ k - 1)).toNat = v.toNat % 2 ^ k := by
  have hpow : 2 ^ k ≤ 2 ^ w := Nat.pow_le_pow_right (by decide) hk
  have hlt : 2 ^ k - 1 < 2 ^ w := by
    have := Nat.two_pow_pos k
    omega
  rw [BitVec.toNat_and, BitVec.toNat_ofNat, Nat.mod_eq_of_lt hlt, Nat.and_two_pow_sub_one_eq_mod]

/-- The carries of the low-byte sum, out of bits 3 and 7, with the operands masked rather than reduced. -/
theorem addSpE8_masked (sp : Word) (e : Byte) : addSpE8 sp e =
    (sp + e.signExtend 16, ⟨false, false, decide ((sp &&& 0x000F).toNat + (e &&& 0x0F).toNat > 0x0F),
      decide ((sp &&& 0x00FF).toNat + e.toNat > 0xFF)⟩) := by
  have hnibble : (sp &&& 0x000F).toNat = sp.toNat % 0x10 := toNat_and_lowMask (k := 4) sp (by decide)
  have hbyte : (sp &&& 0x00FF).toNat = sp.toNat % 0x100 := toNat_and_lowMask (k := 8) sp (by decide)
  have himm : (e &&& 0x0F).toNat = e.toNat % 0x10 := toNat_and_lowMask (k := 4) e (by decide)
  rw [hnibble, hbyte, himm]
  rfl

/-! ## The shared loads (41_load16 R551 to R554) -/

section
variable (s : State)

theorem opLdRp_eq (r : Rp) (nn : Word) :
    opLdRp r nn s = .next ((ran s 3 12).setRegs ((ran s 3 12).regs.setRp r nn)) := rfl

/-- Both writes see the counter at the instruction's start (00_scope R21). -/
theorem opStoreSp_eq (nn : Word) : opStoreSp nn s = .next
    ((memWrite (memWrite (ran s 3 0) nn (lowByte s.regs.sp)) (nn + 1) (highByte s.regs.sp)).addCycles 20) := by
  rw [opStoreSp, instruction_eq_ran, memWrite16]
  rfl

theorem opLdSpHl_eq : opLdSpHl s = .next ((ran s 1 8).setSp s.regs.hl) := rfl

theorem opLdHlSp_eq (e : Byte) : opLdHlSp e s = .next (((ran s 2 12).setRegs
    ((ran s 2 12).regs.setHl (s.regs.sp + e.signExtend 16))).setFlags
      ⟨false, false, decide ((s.regs.sp &&& 0x000F).toNat + (e &&& 0x0F).toNat > 0x0F),
        decide ((s.regs.sp &&& 0x00FF).toNat + e.toNat > 0xFF)⟩) := by
  have hsp : (ran s 2 0).regs.sp = s.regs.sp := rfl
  rw [opLdHlSp, instruction_eq_ran, hsp, addSpE8_masked]
  rfl

end

/-! ## The stack (41_load16 R555 to R557) -/

section
variable (s : State)

/-- The two writes of a push: the store at SP - 1 leaves SP there, so the second goes to SP - 2. -/
theorem push16_eq (v : Word) : push16 s v =
    memWrite ((memWrite (s.setSp (s.regs.sp - 1)) (s.regs.sp - 1) (highByte v)).setSp (s.regs.sp - 2)) (s.regs.sp - 2)
      (lowByte v) := by
  have htwo : s.regs.sp - 1 - 1 = s.regs.sp - 2 := by bv_omega
  rw [push16, push8_eq (push8 s _), push8_sp, htwo, push8_eq]

theorem getRp2_ran (len : Nat) (r : Rp2) : (ran s len 0).regs.getRp2 r = s.regs.getRp2 r := by
  cases r <;> rfl

theorem opPush_eq (r : Rp2) : opPush r s = .next ((push16 (ran s 1 0) (s.regs.getRp2 r)).addCycles 16) := by
  rw [opPush, instruction_eq_ran, getRp2_ran]

/-- SP moves before the pair is written; no pair of R404's table rp2 holds SP. -/
theorem opPop_eq (r : Rp2) : opPop r s = .next (((ran s 1 12).setSp (s.regs.sp + 2)).setRegs
    (((ran s 1 12).setSp (s.regs.sp + 2)).regs.setRp2 r
      (joinWord (memRead s (s.regs.sp + 1)) (memRead s s.regs.sp)))) := rfl

end

/-! ## The statements -/

/-- Settles O19: each form is one of the four shared loads, whose next state is known for all operands. -/
theorem sixteenBitLoads : Obligations.SixteenBitLoads := by
  unfold Obligations.SixteenBitLoads
  refine fun s => ⟨?pairImm, ?storeSp, ?spFromHl, ?hlFromSp⟩
  case pairImm =>
    exact fun r nn => ⟨encodes_of_imm16 (baseTable_ldRpD16 r) nn, (exec_ldRpD16 s r nn).trans (opLdRp_eq ..)⟩
  case storeSp => exact fun nn => ⟨encodes_of_imm16 (f := .ld_atA16_sp) rfl nn, opStoreSp_eq s nn⟩
  case spFromHl => exact ⟨encodes_of_op rfl, opLdSpHl_eq s⟩
  case hlFromSp => exact fun e => ⟨encodes_of_imm8 (f := .ld_hl_sp_e8) rfl e, opLdHlSp_eq s e⟩

/-- Settles O20: PUSH is the two writes of `push16_eq`; POP writes the pair with SP already moved, AF through the mask
of F. -/
theorem pushAndPop : Obligations.PushAndPop := by
  unfold Obligations.PushAndPop
  intro s r
  refine ⟨⟨encodes_of_op (baseTable_push r), _, rfl, ?push⟩, ⟨encodes_of_op (baseTable_pop r), _, rfl, ?pop⟩⟩
  case push =>
    rw [exec_push, opPush_eq, push16_eq]
    rfl
  case pop =>
    rw [exec_pop, opPop_eq]
    cases r <;> rfl

end Sys2Proof.Proofs
end

section
/-! SUPPORT and proofs of O21 to O24. 8-bit arithmetic and logic (42_alu8): the one next state of each shared operation,
and the model's exact sums and differences as the statements write them, in byte arithmetic with masked nibbles. -/

namespace Sys2Proof.Proofs

open Sys2Proof.Machine

/-! ## The instructions that are families over the operations and the registers -/

theorem baseTable_aluR (op : AluOp) (r : R8) : Decode.baseTable[(opcode 2 op.index r.index).toNat]? =
    some (.op (Instr.aluR op r)) := by
  cases op <;> cases r <;> rfl

theorem baseTable_aluAtHL (op : AluOp) : Decode.baseTable[(opcode 2 op.index 6).toNat]? =
    some (.op (Instr.aluAtHL op)) := by
  cases op <;> rfl

theorem baseTable_aluD8 (op : AluOp) : Decode.baseTable[(opcode 3 op.index 6).toNat]? =
    some (.imm8 (Instr.aluD8 op)) := by
  cases op <;> rfl

theorem baseTable_incR (r : R8) : Decode.baseTable[(opcode 0 r.index 4).toNat]? = some (.op (Instr.incR r)) := by
  cases r <;> rfl

theorem baseTable_decR (r : R8) : Decode.baseTable[(opcode 0 r.index 5).toNat]? = some (.op (Instr.decR r)) := by
  cases r <;> rfl

section
variable (s : State)

theorem exec_aluR (op : AluOp) (r : R8) : exec (Instr.aluR op r) s = opAlu 1 4 op (.reg r) s := by
  cases op <;> cases r <;> rfl

theorem exec_aluAtHL (op : AluOp) : exec (Instr.aluAtHL op) s = opAlu 1 8 op .atHL s := by
  cases op <;> rfl

theorem exec_aluD8 (op : AluOp) (n : Byte) : exec (Instr.aluD8 op n) s = opAlu 2 8 op (.imm n) s := by
  cases op <;> rfl

theorem exec_incR (r : R8) : exec (Instr.incR r) s = opInc8 4 (.reg r) s := by
  cases r <;> rfl

theorem exec_decR (r : R8) : exec (Instr.decR r) s = opDec8 4 (.reg r) s := by
  cases r <;> rfl

end

/-! ## The accumulator operations (42_alu8 R602) -/

section
variable (s : State)

theorem opAlu_eq (len cost : Nat) (op : AluOp) (src : Opnd8) : opAlu len cost op src s = .next (leavesA s len cost
    (aluResult op s.flags s.regs.a (src.read s)).1 (aluResult op s.flags s.regs.a (src.read s)).2) := by
  rw [opAlu, instruction_eq_ran, opnd8_read_ran]
  rfl

variable {s}

/-- The three forms of an operation, from what the operation makes of A and any operand. -/
theorem alu_forms (op : AluOp) {f : Byte → Byte} {w : Byte → Flags}
    (h : ∀ v, aluResult op s.flags s.regs.a v = (f v, w v)) :
    (∀ r : R8, encodes [opcode 2 op.index r.index] (Instr.aluR op r) ∧
      exec (Instr.aluR op r) s = .next (leavesA s 1 4 (f (s.regs.get8 r)) (w (s.regs.get8 r)))) ∧
    (encodes [opcode 2 op.index 6] (Instr.aluAtHL op) ∧
      exec (Instr.aluAtHL op) s = .next (leavesA s 1 8 (f (memRead s s.regs.hl)) (w (memRead s s.regs.hl)))) ∧
    (∀ n : Byte, encodes [opcode 3 op.index 6, n] (Instr.aluD8 op n) ∧
      exec (Instr.aluD8 op n) s = .next (leavesA s 2 8 (f n) (w n))) := by
  have hop (len cost : Nat) (src : Opnd8) :
      opAlu len cost op src s = .next (leavesA s len cost (f (src.read s)) (w (src.read s))) := by
    rw [opAlu_eq, h]
  refine ⟨fun r => ⟨encodes_of_op (baseTable_aluR op r), ?reg⟩,
    ⟨encodes_of_op (baseTable_aluAtHL op), ?atHL⟩,
    fun n => ⟨encodes_of_imm8 (baseTable_aluD8 op) n, ?imm⟩⟩
  case reg => exact (exec_aluR s op r).trans (hop 1 4 (.reg r))
  case atHL => exact (exec_aluAtHL s op).trans (hop 1 8 .atHL)
  case imm => exact (exec_aluD8 s op n).trans (hop 2 8 (.imm n))

end

/-! ## Sums and differences (42_alu8 R600, R601) -/

/-- The low nibble of a byte, masked rather than reduced. -/
theorem toNat_and_nibble (v : Byte) : (v &&& 0x0F).toNat = v.toNat % 16 := toNat_and_lowMask (k := 4) v (by decide)

section
variable (a b : Byte) (c : Nat)

/-- The exact sum, narrowed, is the sum of the bytes. -/
theorem add8_eq : add8 a b c = (a + b + BitVec.ofNat 8 c, addFlags a b c) := by
  have hsum : BitVec.ofNat 8 (a.toNat + b.toNat + c) = a + b + BitVec.ofNat 8 c := by
    simp only [BitVec.ofNat_add, BitVec.ofNat_toNat, BitVec.setWidth_eq]
  rw [add8, addFlags, hsum, toNat_and_nibble, toNat_and_nibble]
  rfl

/-- The exact difference, narrowed, is the difference of the bytes; it is negative where the operand and the carry exceed
the minuend. -/
theorem sub8_eq : sub8 a b c = (a - b - BitVec.ofNat 8 c, subFlags a b c) := by
  have hdiff : BitVec.ofInt 8 ((a.toNat : Int) - b.toNat - c) = a - b - BitVec.ofNat 8 c := by
    simp only [Int.sub_eq_add_neg, BitVec.sub_eq_add_neg, BitVec.ofInt_add, BitVec.ofInt_neg, BitVec.ofInt_natCast,
      BitVec.ofNat_toNat, BitVec.setWidth_eq]
  have hneg (m n : Nat) : decide ((m : Int) - n - c < 0) = decide (m < n + c) := decide_eq_decide.mpr (by omega)
  rw [sub8, subFlags, hdiff, hneg, hneg, toNat_and_nibble, toNat_and_nibble]
  rfl

theorem add8_noCarry : add8 a b 0 = (a + b, addFlags a b 0) := by
  rw [add8_eq, BitVec.add_zero]

theorem sub8_noCarry : sub8 a b 0 = (a - b, subFlags a b 0) := by
  rw [sub8_eq, BitVec.sub_zero]

end

/-- Settles O21: the three forms of each operation follow from its sum or difference. -/
theorem addAndSubtract : Obligations.AddAndSubtract := by
  unfold Obligations.AddAndSubtract
  refine ⟨?sums, ?differences⟩
  case sums =>
    rintro s _ _ rfl rfl
    obtain ⟨addR, addAtHL, addD8⟩ := alu_forms (s := s) .add fun v => add8_noCarry s.regs.a v
    obtain ⟨adcR, adcAtHL, adcD8⟩ := alu_forms (s := s) .adc fun v => add8_eq s.regs.a v (bitNat s.flags.c)
    exact ⟨addR, addAtHL, addD8, adcR, adcAtHL, adcD8⟩
  case differences =>
    rintro s _ _ rfl rfl
    obtain ⟨subR, subAtHL, subD8⟩ := alu_forms (s := s) .sub fun v => sub8_noCarry s.regs.a v
    obtain ⟨sbcR, sbcAtHL, sbcD8⟩ := alu_forms (s := s) .sbc fun v => sub8_eq s.regs.a v (bitNat s.flags.c)
    exact ⟨subR, subAtHL, subD8, sbcR, sbcAtHL, sbcD8⟩

/-- Settles O22: each operation's three forms are `alu_forms`; CP takes the flags of the difference. -/
theorem logicAndCompare : Obligations.LogicAndCompare := by
  unfold Obligations.LogicAndCompare
  rintro s _ rfl op f w (⟨rfl, rfl, rfl⟩ | ⟨rfl, rfl, rfl⟩ | ⟨rfl, rfl, rfl⟩ | ⟨rfl, rfl, rfl⟩)
  · exact alu_forms .and fun _ => rfl
  · exact alu_forms .xor fun _ => rfl
  · exact alu_forms .or fun _ => rfl
  · exact alu_forms .cp fun v => by rw [aluResult, sub8_noCarry]

/-! ## An operand read, changed and written back (42_alu8 R634 to R637) -/

/-- The operand replaced and the flags set by a function of the old flags and the operand. -/
def replaceOpnd (g : Flags → Byte → Byte × Flags) (dst : Opnd8) (s : State) : State :=
  (dst.write (g s.flags (dst.read s)).1 s).setFlags (g s.flags (dst.read s)).2

section
variable (s : State)

theorem opInc8_eq_replaceOpnd (cost : Nat) (dst : Opnd8) : opInc8 cost dst s =
    instruction 1 cost (replaceOpnd inc8 dst) s := rfl

theorem opDec8_eq_replaceOpnd (cost : Nat) (dst : Opnd8) : opDec8 cost dst s =
    instruction 1 cost (replaceOpnd dec8 dst) s := rfl

variable (len cost : Nat) (g : Flags → Byte → Byte × Flags)

theorem instruction_replaceOpnd_reg (r : R8) : instruction len cost (replaceOpnd g (.reg r)) s = .next
    (((ran s len cost).set8 r (g s.flags (s.regs.get8 r)).1).setFlags (g s.flags (s.regs.get8 r)).2) := by
  rw [instruction_eq_ran, replaceOpnd, opnd8_read_ran]
  rfl

/-- One read and one write, both with the counter at the instruction's start (00_scope R21). -/
theorem instruction_replaceOpnd_atHL : instruction len cost (replaceOpnd g .atHL) s = .next
    ((stored s len cost s.regs.hl (g s.flags (memRead s s.regs.hl)).1).setFlags
      (g s.flags (memRead s s.regs.hl)).2) := by
  rw [instruction_eq_ran, replaceOpnd, opnd8_read_ran]
  rfl

end

/-- Settles O23: `inc8` and `dec8` on the operand, in a register or at HL. -/
theorem incAndDecBytes : Obligations.IncAndDecBytes := by
  unfold Obligations.IncAndDecBytes
  refine fun s => ⟨?reg, ?atHL⟩
  case reg =>
    rintro r _ rfl
    refine ⟨⟨encodes_of_op (baseTable_incR r), ?inc⟩, ⟨encodes_of_op (baseTable_decR r), ?dec⟩⟩
    case inc =>
      rw [exec_incR, opInc8_eq_replaceOpnd, instruction_replaceOpnd_reg]
      rfl
    case dec =>
      rw [exec_decR, opDec8_eq_replaceOpnd, instruction_replaceOpnd_reg]
      rfl
  case atHL =>
    rintro _ rfl
    exact ⟨⟨encodes_of_op rfl, instruction_replaceOpnd_atHL s 1 12 inc8⟩,
      ⟨encodes_of_op rfl, instruction_replaceOpnd_atHL s 1 12 dec8⟩⟩

/-! ## DAA (42_alu8 R638) -/

section
variable (old : Flags) (a : Byte) (high low : Bool)

/-- The adjustment as a byte is the sum of its two parts. -/
theorem ofNat_daaParts : BitVec.ofNat 8 ((if high then 0x60 else 0) + (if low then 0x06 else 0)) =
    (if high then 0x60 else 0) + (if low then 0x06 else 0) := by
  cases high <;> cases low <;> rfl

variable {old high low}

/-- After an addition both tests are on A before any adjustment. -/
theorem daa8_afterAdd (hn : old.n = false) (hhigh : high = (old.c || decide (a.toNat > 0x99)))
    (hlow : low = (old.h || decide ((a &&& 0x0F).toNat > 0x09))) :
    daa8 old a = (a + (if high then 0x60 else 0) + (if low then 0x06 else 0),
      ⟨decide (a + (if high then 0x60 else 0) + (if low then 0x06 else 0) = 0), false, false, high⟩) := by
  rw [toNat_and_nibble] at hlow
  have hadj : daaAdjust old a = ((if high then 0x60 else 0) + (if low then 0x06 else 0), high) := by
    simp only [daaAdjust, hn, hhigh, hlow, Bool.false_eq_true, if_false]
  simp only [daa8, hn, hadj, ofNat_daaParts, BitVec.add_assoc, Bool.false_eq_true, if_false, Bool.beq_eq_decide_eq]

/-- After a subtraction the flags alone decide the adjustment. -/
theorem daa8_afterSub (hn : old.n = true) :
    daa8 old a = (a - (if old.c then 0x60 else 0) - (if old.h then 0x06 else 0),
      ⟨decide (a - (if old.c then 0x60 else 0) - (if old.h then 0x06 else 0) = 0), true, false, old.c⟩) := by
  have hadj : daaAdjust old a = ((if old.c then 0x60 else 0) + (if old.h then 0x06 else 0), old.c) := if_pos hn
  simp only [daa8, hn, hadj, ofNat_daaParts, BitVec.sub_sub, if_true, Bool.beq_eq_decide_eq]

end

section
variable (s : State)

theorem opDaa_eq : opDaa s = .next (leavesA s 1 4 (daa8 s.flags s.regs.a).1 (daa8 s.flags s.regs.a).2) := rfl

theorem opCpl_eq : opCpl s = .next (leavesA s 1 4 (~~~s.regs.a) ⟨s.flags.z, true, true, s.flags.c⟩) := by
  rw [← BitVec.xor_allOnes]
  rfl

theorem opScf_eq : opScf s = .next ((ran s 1 4).setFlags ⟨s.flags.z, false, false, true⟩) := rfl

theorem opCcf_eq : opCcf s = .next ((ran s 1 4).setFlags ⟨s.flags.z, false, false, !s.flags.c⟩) := rfl

end

/-- Settles O24: DAA by the two cases of N; the others set the flags outright. -/
theorem accumulatorAdjustments : Obligations.AccumulatorAdjustments := by
  unfold Obligations.AccumulatorAdjustments
  rintro s _ _ n _ _ rfl rfl hn rfl rfl
  refine ⟨⟨encodes_of_op rfl, ?daa⟩, ⟨encodes_of_op rfl, opCpl_eq s⟩, ⟨encodes_of_op rfl, opScf_eq s⟩,
    ⟨encodes_of_op rfl, opCcf_eq s⟩⟩
  case daa =>
    cases n with
    | false =>
      refine ⟨s.flags.c || decide (s.regs.a.toNat > 0x99), s.flags.h || decide ((s.regs.a &&& 0x0F).toNat > 0x09),
        fun _ => ⟨rfl, rfl, ?_⟩, nofun⟩
      exact (opDaa_eq s).trans (by rw [daa8_afterAdd s.regs.a hn.symm rfl rfl])
    | true =>
      refine ⟨s.flags.c, s.flags.h, nofun, fun _ => ⟨rfl, rfl, ?_⟩⟩
      exact (opDaa_eq s).trans (by rw [daa8_afterSub s.regs.a hn.symm]; rfl)

end Sys2Proof.Proofs
end

section
/-! SUPPORT and proof of O26. 16-bit arithmetic (43_alu16): the one next state of each shared operation, with the
carries of the exact sums as the statement writes them, from masked operands. -/

namespace Sys2Proof.Proofs

open Sys2Proof.Machine

/-! ## The instructions that are families over the register pairs -/

theorem baseTable_incRp (r : Rp) : Decode.baseTable[(opcode 0 (2 * r.index) 3).toNat]? =
    some (.op (Instr.incRp r)) := by
  cases r <;> rfl

theorem baseTable_decRp (r : Rp) : Decode.baseTable[(opcode 0 (2 * r.index + 1) 3).toNat]? =
    some (.op (Instr.decRp r)) := by
  cases r <;> rfl

theorem baseTable_addHLRp (r : Rp) : Decode.baseTable[(opcode 0 (2 * r.index + 1) 1).toNat]? =
    some (.op (Instr.addHLRp r)) := by
  cases r <;> rfl

section
variable (s : State)

theorem exec_incRp (r : Rp) : exec (Instr.incRp r) s = opStepRp 1 r s := by
  cases r <;> rfl

theorem exec_decRp (r : Rp) : exec (Instr.decRp r) s = opStepRp (-1) r s := by
  cases r <;> rfl

theorem exec_addHLRp (r : Rp) : exec (Instr.addHLRp r) s = opAddHl r s := by
  cases r <;> rfl

end

/-! ## ADD HL,rr (43_alu16 R650, R653) -/

section
variable (oldH : Bool) (hl v : Word)

/-- The carry out of bit 11, with the operands masked rather than reduced. -/
theorem add16Half_hwBit11 : add16Half .hwBit11 oldH hl v =
    decide ((hl &&& 0x0FFF).toNat + (v &&& 0x0FFF).toNat > 0x0FFF) := by
  have hmask (x : Word) : (x &&& 0x0FFF).toNat = x.toNat % 0x1000 := toNat_and_lowMask (k := 12) x (by decide)
  rw [hmask, hmask]
  rfl

/-- The carry out of bit 3, with the operands masked rather than reduced. -/
theorem add16Half_lowByte : add16Half .lowByte oldH hl v =
    decide ((hl &&& 0x000F).toNat + (v &&& 0x000F).toNat > 0x000F) := by
  have hmask (x : Word) : (x &&& 0x000F).toNat = x.toNat % 0x10 := toNat_and_lowMask (k := 4) x (by decide)
  rw [hmask, hmask]
  rfl

/-- The exact sum, narrowed, is the sum of the words. -/
theorem add16_eq (p : Add16HalfCarry) (old : Flags) : add16 p old hl v =
    (hl + v, ⟨old.z, false, add16Half p old.h hl v, decide (hl.toNat + v.toNat > 0xFFFF)⟩) := by
  have hsum : BitVec.ofNat 16 (hl.toNat + v.toNat) = hl + v := by
    rw [BitVec.ofNat_add, BitVec.ofNat_toNat, BitVec.ofNat_toNat, BitVec.setWidth_eq, BitVec.setWidth_eq]
  rw [add16, hsum]

end

/-! ## The shared operations (43_alu16 R651 to R654) -/

section
variable (s : State)

theorem getRp_ran (len : Nat) (r : Rp) : (ran s len 0).regs.getRp r = s.regs.getRp r := by
  cases r <;> rfl

theorem opStepRp_eq (k : Word) (r : Rp) : opStepRp k r s = .next
    ((ran s 1 8).setRegs ((ran s 1 8).regs.setRp r (s.regs.getRp r + k))) := by
  rw [opStepRp, instruction_eq_ran, getRp_ran]
  rfl

theorem opAddHl_eq (r : Rp) : opAddHl r s = .next
    (((ran s 1 8).setRegs ((ran s 1 8).regs.setHl (s.regs.hl + s.regs.getRp r))).setFlags
      ⟨s.flags.z, false, add16Half s.params.add16HalfCarry s.flags.h s.regs.hl (s.regs.getRp r),
        decide (s.regs.hl.toNat + (s.regs.getRp r).toNat > 0xFFFF)⟩) := by
  rw [opAddHl, instruction_eq_ran, getRp_ran, add16_eq]
  rfl

theorem opAddSp_eq (e : Byte) : opAddSp e s = .next (((ran s 2 16).setSp (s.regs.sp + e.signExtend 16)).setFlags
    ⟨false, false, decide ((s.regs.sp &&& 0x000F).toNat + (e &&& 0x0F).toNat > 0x0F),
      decide ((s.regs.sp &&& 0x00FF).toNat + e.toNat > 0xFF)⟩) := by
  have hsp : (ran s 2 0).regs.sp = s.regs.sp := rfl
  rw [opAddSp, instruction_eq_ran, hsp, addSpE8_masked]
  rfl

end

/-- Settles O26: each form is one of the three shared operations; H of ADD HL,rr is `add16Half` of the parameter, case by
case. -/
theorem sixteenBitArithmetic : Obligations.SixteenBitArithmetic := by
  unfold Obligations.SixteenBitArithmetic
  refine fun s => ⟨fun r => ⟨⟨encodes_of_op (baseTable_incRp r), ?inc⟩, ⟨encodes_of_op (baseTable_decRp r), ?dec⟩,
    ⟨encodes_of_op (baseTable_addHLRp r), add16Half s.params.add16HalfCarry s.flags.h s.regs.hl (s.regs.getRp r),
      ?hwBit11, ?omitted, ?lowByte, ?addHl⟩⟩, fun e => ⟨encodes_of_imm8 (f := .add_sp_e8) rfl e, opAddSp_eq s e⟩⟩
  case inc => exact (exec_incRp s r).trans (opStepRp_eq s 1 r)
  case dec =>
    rw [BitVec.sub_eq_add_neg]
    exact (exec_decRp s r).trans (opStepRp_eq s (-1) r)
  case hwBit11 =>
    intro hp
    rw [hp, add16Half_hwBit11]
  case omitted =>
    intro hp
    rw [hp]
    rfl
  case lowByte =>
    intro hp
    rw [hp, add16Half_lowByte]
  case addHl => exact (exec_addHLRp s r).trans (opAddHl_eq s r)

end Sys2Proof.Proofs
end

section
/-! SUPPORT and proofs of O27 and O29. Rotates, shifts and bits (44_rotate_shift_bit): the functions of R700 as the
statement writes them, encodings from the CB table, and the one next state of each shared operation. -/

namespace Sys2Proof.Proofs

open Sys2Proof.Machine

/-! ## The rotate and shift functions (44_rotate_shift_bit R700) -/

section
variable (v : Byte) (c : Bool)

theorem shiftLeft_one_eq_ofNat : v <<< 1 = BitVec.ofNat 8 (2 * v.toNat) := by
  rw [BitVec.shiftLeft_eq_mul_twoPow, BitVec.mul_comm, BitVec.ofNat_mul, BitVec.ofNat_toNat, BitVec.setWidth_eq]
  rfl

theorem ushiftRight_one_eq_ofNat : v >>> 1 = BitVec.ofNat 8 (v.toNat / 2) := by
  rw [← Nat.shiftRight_eq_div_pow v.toNat 1, ← BitVec.toNat_ushiftRight, BitVec.ofNat_toNat, BitVec.setWidth_eq]

/-- A bit put into a place that is 0 is added: the disjunction is a sum. -/
theorem or_bitByte_eq_add {x : Byte} {k : Nat} (hfree : x.getLsbD k = false) :
    x ||| bitByte c <<< k = x + bitByte c <<< k := by
  cases c with
  | false => simp [bitByte]
  | true =>
    have hand : x &&& BitVec.twoPow 8 k = 0#8 := by simp [BitVec.and_twoPow, hfree]
    exact (BitVec.add_eq_or_of_and_eq_zero x (BitVec.twoPow 8 k) hand).symm

/-- The old carry goes into bit 0, which the shift leaves 0. -/
theorem rotate_rl : rotate .rl v c = (BitVec.ofNat 8 (2 * v.toNat + (if c then 1 else 0)), bit v 7) := by
  have hfree : (v <<< 1).getLsbD 0 = false := by simp
  have hcarry : bitByte c = BitVec.ofNat 8 (if c then 1 else 0) := by cases c <;> rfl
  have hsum := or_bitByte_eq_add c hfree
  rw [BitVec.shiftLeft_zero] at hsum
  rw [rotate, hsum, shiftLeft_one_eq_ofNat, hcarry, BitVec.ofNat_add]

/-- The old carry goes into bit 7, which the shift leaves 0. -/
theorem rotate_rr : rotate .rr v c = (BitVec.ofNat 8 (v.toNat / 2 + (if c then 0x80 else 0)), bit v 0) := by
  have hfree : (v >>> 1).getLsbD 7 = false := by simp
  have hcarry : bitByte c <<< 7 = BitVec.ofNat 8 (if c then 0x80 else 0) := by cases c <;> rfl
  rw [rotate, or_bitByte_eq_add c hfree, ushiftRight_one_eq_ofNat, hcarry, BitVec.ofNat_add]

/-- Bit 7 is kept and, one place down, copied: the arithmetic shift. -/
theorem rotate_sra : rotate .sra v c = (v.sshiftRight 1, bit v 0) := by
  have hmask : (0x80 : Byte) = BitVec.twoPow 8 7 := rfl
  have hshift : v >>> 1 ||| v &&& 0x80 = v.sshiftRight 1 := by
    ext i hi
    rw [hmask, BitVec.getElem_sshiftRight, BitVec.getElem_or, BitVec.getElem_and, BitVec.getElem_twoPow,
      BitVec.getElem_ushiftRight]
    split
    next hlt =>
      have hne : i ≠ 7 := by omega
      simp [hne, BitVec.getLsbD_eq_getElem hlt]
    next hge =>
      obtain rfl : i = 7 := by omega
      simp [BitVec.msb_eq_getLsbD_last]
  rw [rotate, hshift]

end

/-! ## Encodings from the CB table (30_encoding R405, R407) -/

theorem encodes_of_cb {c : Byte} {i : Instr} (h : Decode.cbTable[c.toNat]? = some i) : encodes [0xCB, c] i := by
  have hprefix : Decode.baseTable[(0xCB : Byte).toNat]? = some .cbPrefix := rfl
  intro rest
  simp only [List.cons_append, List.nil_append, decode, hprefix, h]

theorem cbTable_bitR (b : BitIx) (r : R8) : Decode.cbTable[(opcode 1 b.toNat r.index).toNat]? =
    some (Instr.bitR b r) := by
  cases b <;> cases r <;> rfl

theorem cbTable_resR (b : BitIx) (r : R8) : Decode.cbTable[(opcode 2 b.toNat r.index).toNat]? =
    some (Instr.resR b r) := by
  cases b <;> cases r <;> rfl

theorem cbTable_setR (b : BitIx) (r : R8) : Decode.cbTable[(opcode 3 b.toNat r.index).toNat]? =
    some (Instr.setR b r) := by
  cases b <;> cases r <;> rfl

theorem cbTable_bitAtHL (b : BitIx) : Decode.cbTable[(opcode 1 b.toNat 6).toNat]? = some (Instr.bitAtHL b) := by
  cases b <;> rfl

theorem cbTable_resAtHL (b : BitIx) : Decode.cbTable[(opcode 2 b.toNat 6).toNat]? = some (Instr.resAtHL b) := by
  cases b <;> rfl

theorem cbTable_setAtHL (b : BitIx) : Decode.cbTable[(opcode 3 b.toNat 6).toNat]? = some (Instr.setAtHL b) := by
  cases b <;> rfl

/-! ## The instructions that are families over the bits and the registers -/

section
variable (s : State) (b : BitIx)

theorem exec_bitR (r : R8) : exec (Instr.bitR b r) s = opBit 8 b (.reg r) s := by
  cases b <;> cases r <;> rfl

theorem exec_resR (r : R8) : exec (Instr.resR b r) s = opRes 8 b (.reg r) s := by
  cases b <;> cases r <;> rfl

theorem exec_setR (r : R8) : exec (Instr.setR b r) s = opSet 8 b (.reg r) s := by
  cases b <;> cases r <;> rfl

theorem exec_bitAtHL : exec (Instr.bitAtHL b) s = opBit 12 b .atHL s := by
  cases b <;> rfl

theorem exec_resAtHL : exec (Instr.resAtHL b) s = opRes 16 b .atHL s := by
  cases b <;> rfl

theorem exec_setAtHL : exec (Instr.setAtHL b) s = opSet 16 b .atHL s := by
  cases b <;> rfl

end

/-! ## The shared operations -/

theorem ofNat_two_pow_eq_shiftLeft (b : BitIx) : BitVec.ofNat 8 (2 ^ b.toNat) = (1 : Byte) <<< b.toNat := by
  cases b <;> rfl

theorem resBit_eq (b : BitIx) (v : Byte) : resBit b v = v &&& ~~~((1 : Byte) <<< b.toNat) := by
  rw [← ofNat_two_pow_eq_shiftLeft]
  rfl

theorem setBitIx_eq (b : BitIx) (v : Byte) : setBitIx b v = v ||| (1 : Byte) <<< b.toNat := by
  rw [← ofNat_two_pow_eq_shiftLeft]
  rfl

/-- The operand replaced by a function of it; no flag changes. -/
def rewriteOpnd (f : Byte → Byte) (dst : Opnd8) (s : State) : State := dst.write (f (dst.read s)) s

section
variable (s : State)

/-- RLCA, RRCA, RLA and RRA: the rotate of A, with Z, N and H clear (44_rotate R701 to R704). -/
theorem opRotA_eq (op : RotOp) : opRotA op s = .next (leavesA s 1 4 (rotate op s.regs.a s.flags.c).1
    ⟨false, false, false, (rotate op s.regs.a s.flags.c).2⟩) := rfl

variable (cost : Nat) (b : BitIx)

/-- BIT writes no operand: only the flags change (44_rotate R722, R723). -/
theorem opBit_eq (src : Opnd8) : opBit cost b src s = .next
    ((ran s 2 cost).setFlags ⟨!bit (src.read s) b.toNat, false, true, bit s.regs.f 4⟩) := by
  rw [opBit, instruction_eq_ran, opnd8_read_ran]
  rfl

theorem opRes_eq_rewriteOpnd (dst : Opnd8) :
    opRes cost b dst s = instruction 2 cost (rewriteOpnd (resBit b) dst) s := rfl

theorem opSet_eq_rewriteOpnd (dst : Opnd8) :
    opSet cost b dst s = instruction 2 cost (rewriteOpnd (setBitIx b) dst) s := rfl

variable (len : Nat) (f : Byte → Byte)

theorem instruction_rewriteOpnd_reg (r : R8) : instruction len cost (rewriteOpnd f (.reg r)) s = .next
    ((ran s len cost).set8 r (f (s.regs.get8 r))) := by
  rw [instruction_eq_ran, rewriteOpnd, opnd8_read_ran]
  rfl

/-- One read and one write, both with the counter at the instruction's start (00_scope R21). -/
theorem instruction_rewriteOpnd_atHL : instruction len cost (rewriteOpnd f .atHL) s = .next
    (stored s len cost s.regs.hl (f (memRead s s.regs.hl))) := by
  rw [instruction_eq_ran, rewriteOpnd, opnd8_read_ran]
  rfl

end

/-! ## The statements -/

/-- Settles O27: the rotates by the library's definitions of rotation, the shifts through the carry by `rotate_rl` and
`rotate_rr`; the four accumulator forms are one operation. -/
theorem rotateFunctionsAndAccumulatorRotates : Obligations.RotateFunctionsAndAccumulatorRotates := by
  unfold Obligations.RotateFunctionsAndAccumulatorRotates
  refine ⟨fun v c => ⟨?rlc, ?rrc, rotate_rl v c, rotate_rr v c, ?sla, rotate_sra v c, ?swap, ?srl⟩, ?accumulator⟩
  case rlc => rw [BitVec.rotateLeft_def, rotate]
  case rrc => rw [BitVec.rotateRight_def, rotate]
  case sla => rw [← shiftLeft_one_eq_ofNat, rotate]
  case swap => rw [BitVec.rotateLeft_def, rotate]
  case srl => rw [← ushiftRight_one_eq_ofNat, rotate]
  case accumulator =>
    rintro s _ _ _ (⟨rfl, rfl, rfl⟩ | ⟨rfl, rfl, rfl⟩ | ⟨rfl, rfl, rfl⟩ | ⟨rfl, rfl, rfl⟩)
    · exact ⟨encodes_of_op rfl, opRotA_eq s .rlc⟩
    · exact ⟨encodes_of_op rfl, opRotA_eq s .rrc⟩
    · exact ⟨encodes_of_op rfl, opRotA_eq s .rl⟩
    · exact ⟨encodes_of_op rfl, opRotA_eq s .rr⟩

/-- Settles O29: BIT sets flags only; RES and SET rewrite their operand, in a register or at HL. -/
theorem bitTestsResetsAndSets : Obligations.BitTestsResetsAndSets := by
  unfold Obligations.BitTestsResetsAndSets
  refine fun s b => ⟨fun r => ⟨⟨encodes_of_cb (cbTable_bitR b r), ?bitR⟩, ⟨encodes_of_cb (cbTable_resR b r), ?resR⟩,
      ⟨encodes_of_cb (cbTable_setR b r), ?setR⟩⟩,
    ⟨encodes_of_cb (cbTable_bitAtHL b), ?bitAtHL⟩, ⟨encodes_of_cb (cbTable_resAtHL b), ?resAtHL⟩,
    ⟨encodes_of_cb (cbTable_setAtHL b), ?setAtHL⟩⟩
  case bitR => exact (exec_bitR s b r).trans (opBit_eq s 8 b (.reg r))
  case resR => rw [exec_resR, opRes_eq_rewriteOpnd, instruction_rewriteOpnd_reg, resBit_eq]
  case setR => rw [exec_setR, opSet_eq_rewriteOpnd, instruction_rewriteOpnd_reg, setBitIx_eq]
  case bitAtHL => exact (exec_bitAtHL s b).trans (opBit_eq s 12 b .atHL)
  case resAtHL => rw [exec_resAtHL, opRes_eq_rewriteOpnd, instruction_rewriteOpnd_atHL, resBit_eq]
  case setAtHL => rw [exec_setAtHL, opSet_eq_rewriteOpnd, instruction_rewriteOpnd_atHL, setBitIx_eq]

end Sys2Proof.Proofs
end

section
/-! SUPPORT and proofs of O31 and O32. Control transfer (45_control): the one next state of each shared operation, as the
statements write it; a conditional form is its effect or nothing, each with its own cost. -/

namespace Sys2Proof.Proofs

open Sys2Proof.Machine

/-! ## The instructions that are families over the conditions and the restart vectors -/

theorem baseTable_jpCC (cc : Cond) : Decode.baseTable[(opcode 3 cc.index 2).toNat]? =
    some (.imm16 (Instr.jpCC cc)) := by
  cases cc <;> rfl

theorem baseTable_jrCC (cc : Cond) : Decode.baseTable[(opcode 0 (cc.index + 4) 0).toNat]? =
    some (.imm8 (Instr.jrCC cc)) := by
  cases cc <;> rfl

theorem baseTable_callCC (cc : Cond) : Decode.baseTable[(opcode 3 cc.index 4).toNat]? =
    some (.imm16 (Instr.callCC cc)) := by
  cases cc <;> rfl

theorem baseTable_retCC (cc : Cond) : Decode.baseTable[(opcode 3 cc.index 0).toNat]? =
    some (.op (Instr.retCC cc)) := by
  cases cc <;> rfl

theorem baseTable_rst (v : RstVec) : Decode.baseTable[(opcode 3 v.index 7).toNat]? = some (.op (Instr.rst v)) := by
  cases v <;> rfl

section
variable (s : State) (cc : Cond)

theorem exec_jpCC (nn : Word) : exec (Instr.jpCC cc nn) s = opJpCC cc nn s := by
  cases cc <;> rfl

theorem exec_jrCC (e : Byte) : exec (Instr.jrCC cc e) s = opJrCC cc e s := by
  cases cc <;> rfl

theorem exec_callCC (nn : Word) : exec (Instr.callCC cc nn) s = opCallCC cc nn s := by
  cases cc <;> rfl

theorem exec_retCC : exec (Instr.retCC cc) s = opRetCC cc s := by
  cases cc <;> rfl

theorem exec_rst (v : RstVec) : exec (Instr.rst v) s = opRst v s := by
  cases v <;> rfl

end

/-- The restart target is eight times the field y (30_encoding R403). -/
theorem rstVec_target_eq (v : RstVec) : v.target = BitVec.ofNat 16 (8 * v.index) := by
  cases v <;> rfl

/-! ## A conditional instruction -/

section
variable (s : State)

theorem conditional_eq_ran (len taken notTaken : Nat) (cond : Bool) (effect : State → State) :
    conditional len taken notTaken cond effect s =
      .next (if cond then (effect (ran s len 0)).addCycles taken else ran s len notTaken) := by
  cases cond with
  | true => exact instruction_eq_ran s len taken effect
  | false => exact instruction_eq_ran s len notTaken id

/-! ## Jumps (45_control R751 to R755) -/

theorem opJp_eq (nn : Word) : opJp nn s = .next ((ran s 3 16).setPc nn) := rfl

theorem opJpCC_eq (cc : Cond) (nn : Word) : opJpCC cc nn s =
    .next (if condHolds (flagsOf s.regs.f) cc then (ran s 3 16).setPc nn else ran s 3 12) :=
  conditional_eq_ran s 3 16 12 _ _

theorem opJpHl_eq : opJpHl s = .next ((ran s 1 4).setPc s.regs.hl) := rfl

/-- The displacement is added to PC past the two bytes (R754). -/
theorem opJr_eq (e : Byte) : opJr e s =
    .next ((ran s 2 12).setPc ((ran s 2 12).regs.pc + e.signExtend 16)) := rfl

theorem opJrCC_eq (cc : Cond) (e : Byte) : opJrCC cc e s = .next (if condHolds (flagsOf s.regs.f) cc
    then (ran s 2 12).setPc ((ran s 2 12).regs.pc + e.signExtend 16) else ran s 2 8) :=
  conditional_eq_ran s 2 12 8 _ _

/-! ## Calls and returns (45_control R756 to R761) -/

/-- The address pushed is PC past the three bytes; the pushes see the counter at the instruction's start (00_scope
R21). -/
theorem opCall_eq (nn : Word) : opCall nn s =
    .next (((push16 (ran s 3 0) (ran s 3 0).regs.pc).setPc nn).addCycles 24) := rfl

theorem opCallCC_eq (cc : Cond) (nn : Word) : opCallCC cc nn s = .next (if condHolds (flagsOf s.regs.f) cc
    then ((push16 (ran s 3 0) (ran s 3 0).regs.pc).setPc nn).addCycles 24 else ran s 3 12) :=
  conditional_eq_ran s 3 24 12 _ _

theorem opRst_eq (v : RstVec) : opRst v s = .next
    (((push16 (ran s 1 0) (ran s 1 0).regs.pc).setPc (BitVec.ofNat 16 (8 * v.index))).addCycles 16) := by
  rw [← rstVec_target_eq]
  rfl

/-- `s` after a return of `cost` cycles: PC is the word at SP, and SP is two up. -/
def returned (cost : Nat) : State :=
  (ran s 1 cost).setRegs { s.regs with
    sp := s.regs.sp + 2, pc := joinWord (memRead s (s.regs.sp + 1)) (memRead s s.regs.sp) }

theorem returnTo_ran (cost : Nat) : (returnTo (ran s 1 0)).addCycles cost = returned s cost := rfl

theorem opRet_eq : opRet s = .next (returned s 16) := by
  rw [opRet, instruction_eq_ran, returnTo_ran]

theorem opRetCC_eq (cc : Cond) : opRetCC cc s =
    .next (if condHolds (flagsOf s.regs.f) cc then returned s 20 else ran s 1 8) := by
  rw [opRetCC, conditional_eq_ran, returnTo_ran, State.flags]

/-- RETI is RET with IME set and IME_ARMED cleared at once (R760). -/
theorem opReti_eq : opReti s = .next { returned s 16 with ime := true, imeArmed := false } := rfl

end

/-! ## The statements -/

/-- Settles O31: the conditions by their table; each form is one of the shared jumps, whose next state is known for all
operands. -/
theorem jumpsAndConditions : Obligations.JumpsAndConditions := by
  unfold Obligations.JumpsAndConditions
  refine ⟨fun w => ⟨rfl, rfl, rfl, rfl⟩, fun s nn e cc => ⟨?jp, ?jpCC, ?jpHl, ?jr, ?jrCC⟩⟩
  case jp => exact ⟨encodes_of_imm16 (f := .jp_a16) rfl nn, opJp_eq s nn⟩
  case jpCC => exact ⟨encodes_of_imm16 (baseTable_jpCC cc) nn, (exec_jpCC s cc nn).trans (opJpCC_eq s cc nn)⟩
  case jpHl => exact ⟨encodes_of_op rfl, opJpHl_eq s⟩
  case jr => exact ⟨encodes_of_imm8 (f := .jr_e8) rfl e, opJr_eq s e⟩
  case jrCC => exact ⟨encodes_of_imm8 (baseTable_jrCC cc) e, (exec_jrCC s cc e).trans (opJrCC_eq s cc e)⟩

/-- Settles O32: the pushes are those of `push16_eq`; each form is one of the shared calls and returns, and the returns
share the state `returned`. -/
theorem callsAndReturns : Obligations.CallsAndReturns := by
  unfold Obligations.CallsAndReturns
  refine ⟨push16_eq, fun s nn cc v => ⟨?call, ?callCC, ?rst, returned s, fun _ => rfl, ?ret, ?retCC, ?reti⟩⟩
  case call => exact ⟨encodes_of_imm16 (f := .call_a16) rfl nn, opCall_eq s nn⟩
  case callCC =>
    exact ⟨encodes_of_imm16 (baseTable_callCC cc) nn, (exec_callCC s cc nn).trans (opCallCC_eq s cc nn)⟩
  case rst => exact ⟨encodes_of_op (baseTable_rst v), (exec_rst s v).trans (opRst_eq s v)⟩
  case ret => exact ⟨encodes_of_op rfl, opRet_eq s⟩
  case retCC => exact ⟨encodes_of_op (baseTable_retCC cc), (exec_retCC s cc).trans (opRetCC_eq s cc)⟩
  case reti => exact ⟨encodes_of_op rfl, opReti_eq s⟩

end Sys2Proof.Proofs
end

section
/-! SUPPORT and proofs of O34 and O40. The undefined opcodes (46_system R806) and the end-of-instruction IME update (R800):
only DI, EI and RETI change IME_ARMED, so any other instruction that starts with it set leaves it set, and the update then
sets IME. -/

namespace Sys2Proof.Proofs

open Sys2Proof.Machine

/-! ## The undefined opcodes (46_system R806) -/

theorem baseTable_illegal (op : IllegalOp) : Decode.baseTable[op.byte.toNat]? = some (.op (Instr.illegal op)) := by
  cases op <;> rfl

theorem byte_mem_undefinedOpcodes (op : IllegalOp) : op.byte ∈ undefinedOpcodes := by
  cases op <;> decide

theorem exec_illegal (op : IllegalOp) (s : State) : exec (Instr.illegal op) s = opIllegal op s := by
  cases op <;> rfl

/-- Settles O34: the eleven opcodes share one operation, which raises the fault and does nothing else. -/
theorem undefinedOpcodesAreFatal : Obligations.UndefinedOpcodesAreFatal := by
  unfold Obligations.UndefinedOpcodesAreFatal
  exact fun s op => ⟨encodes_of_op (baseTable_illegal op), byte_mem_undefinedOpcodes op, exec_illegal op s⟩

/-! ## What keeps IME_ARMED -/

section
variable (s : State)

@[simp] theorem opnd8_write_imeArmed (o : Opnd8) (v : Byte) : (o.write v s).imeArmed = s.imeArmed := by
  cases o with
  | reg r => rfl
  | atHL => exact memWrite_imeArmed s s.regs.hl v
  | imm n => rfl

@[simp] theorem memWrite16_imeArmed (a v : Word) : (memWrite16 s a v).imeArmed = s.imeArmed := by
  simp [memWrite16]

@[simp] theorem push16_imeArmed (v : Word) : (push16 s v).imeArmed = s.imeArmed := by
  simp [push16, push8]

@[simp] theorem callTo_imeArmed (nn : Word) : (callTo nn s).imeArmed = s.imeArmed := by
  simp [callTo]

@[simp] theorem haltEffect_imeArmed : (haltEffect s).imeArmed = s.imeArmed := by
  unfold haltEffect
  repeat' split
  all_goals rfl

@[simp] theorem stopEffect_imeArmed : (stopEffect s).imeArmed = s.imeArmed := by
  unfold stopEffect
  split <;> rfl

end

section
variable {s t : State}

/-- What an instruction leaves in IME_ARMED is read off its one next state `u`. -/
theorem imeArmed_of_next {o : Host.Outcome State Fault Refusal} {u : State} (hu : o = .next u) (h : o = .next t)
    (hkept : u.imeArmed = s.imeArmed) : t.imeArmed = s.imeArmed := by
  obtain rfl := Host.Outcome.next.inj (hu.symm.trans h)
  exact hkept

theorem instruction_keeps_imeArmed {len cost : Nat} {effect : State → State}
    (h : instruction len cost effect s = .next t) (he : ∀ u, (effect u).imeArmed = u.imeArmed) :
    t.imeArmed = s.imeArmed :=
  imeArmed_of_next rfl h (he (s.advance len))

theorem conditional_keeps_imeArmed {len taken notTaken : Nat} {cond : Bool} {effect : State → State}
    (h : conditional len taken notTaken cond effect s = .next t) (he : ∀ u, (effect u).imeArmed = u.imeArmed) :
    t.imeArmed = s.imeArmed := by
  cases cond with
  | true => exact instruction_keeps_imeArmed h he
  | false => exact instruction_keeps_imeArmed h fun _ => rfl

theorem opStoreAStep_keeps_imeArmed {k : Word} (h : opStoreAStep k s = .next t) : t.imeArmed = s.imeArmed :=
  instruction_keeps_imeArmed h fun _ => memWrite_imeArmed ..

theorem opStepRp_keeps_imeArmed {k : Word} {r : Rp} (h : opStepRp k r s = .next t) : t.imeArmed = s.imeArmed :=
  instruction_keeps_imeArmed h fun _ => rfl

theorem opPush_keeps_imeArmed {r : Rp2} (h : opPush r s = .next t) : t.imeArmed = s.imeArmed :=
  instruction_keeps_imeArmed h fun _ => push16_imeArmed ..

theorem opCall_keeps_imeArmed {nn : Word} (h : opCall nn s = .next t) : t.imeArmed = s.imeArmed :=
  instruction_keeps_imeArmed h fun _ => callTo_imeArmed ..

theorem opRst_keeps_imeArmed {v : RstVec} (h : opRst v s = .next t) : t.imeArmed = s.imeArmed :=
  instruction_keeps_imeArmed h fun _ => callTo_imeArmed ..

theorem opJpCC_keeps_imeArmed {cc : Cond} {nn : Word} (h : opJpCC cc nn s = .next t) : t.imeArmed = s.imeArmed :=
  conditional_keeps_imeArmed h fun _ => rfl

theorem opJrCC_keeps_imeArmed {cc : Cond} {e : Byte} (h : opJrCC cc e s = .next t) : t.imeArmed = s.imeArmed :=
  conditional_keeps_imeArmed h fun _ => rfl

theorem opCallCC_keeps_imeArmed {cc : Cond} {nn : Word} (h : opCallCC cc nn s = .next t) : t.imeArmed = s.imeArmed :=
  conditional_keeps_imeArmed h fun _ => callTo_imeArmed ..

theorem opRetCC_keeps_imeArmed {cc : Cond} (h : opRetCC cc s = .next t) : t.imeArmed = s.imeArmed :=
  conditional_keeps_imeArmed h fun _ => rfl

theorem opCbByte_keeps_imeArmed {c : Byte} (h : opCbByte c s = .next t) : t.imeArmed = s.imeArmed := by
  rcases hx : field c 7 6 with _ | _ | _ | n <;> simp only [opCbByte, hx] at h
  · exact imeArmed_of_next rfl h (opnd8_write_imeArmed ..)
  · exact imeArmed_of_next rfl h rfl
  · exact imeArmed_of_next rfl h (opnd8_write_imeArmed ..)
  · exact imeArmed_of_next rfl h (opnd8_write_imeArmed ..)

/-- Only DI, EI and RETI change IME_ARMED.  The forms that store go by their write, the conditional ones by their two
branches. -/
theorem exec_keeps_imeArmed {i : Instr} (hdi : i ≠ .di) (hei : i ≠ .ei) (hreti : i ≠ .reti)
    (h : exec i s = .next t) : t.imeArmed = s.imeArmed := by
  cases i with
  | di => exact absurd rfl hdi
  | ei => exact absurd rfl hei
  | reti => exact absurd rfl hreti
  | ld_atBC_a | ld_atDE_a | ldh_atA8_a | ldh_atC_a | ld_atA16_a | ld_atHL_d8 | ld_atHL_b | ld_atHL_c | ld_atHL_d
    | ld_atHL_e | ld_atHL_h | ld_atHL_l | ld_atHL_a | inc_atHL | dec_atHL | rlc_atHL | rrc_atHL | rl_atHL | rr_atHL
    | sla_atHL | sra_atHL | swap_atHL | srl_atHL | res_0_atHL | res_1_atHL | res_2_atHL | res_3_atHL | res_4_atHL
    | res_5_atHL | res_6_atHL | res_7_atHL | set_0_atHL | set_1_atHL | set_2_atHL | set_3_atHL | set_4_atHL
    | set_5_atHL | set_6_atHL | set_7_atHL => exact imeArmed_of_next rfl h (memWrite_imeArmed ..)
  | ld_atHLi_a | ld_atHLd_a => exact opStoreAStep_keeps_imeArmed h
  | inc_bc | dec_bc | inc_de | dec_de | inc_hl | dec_hl | inc_sp | dec_sp => exact opStepRp_keeps_imeArmed h
  | ld_atA16_sp => exact imeArmed_of_next rfl h (memWrite16_imeArmed ..)
  | push_bc | push_de | push_hl | push_af => exact opPush_keeps_imeArmed h
  | call_a16 => exact opCall_keeps_imeArmed h
  | rst_00h | rst_08h | rst_10h | rst_18h | rst_20h | rst_28h | rst_30h | rst_38h => exact opRst_keeps_imeArmed h
  | halt => exact imeArmed_of_next rfl h (haltEffect_imeArmed ..)
  | stop => exact imeArmed_of_next rfl h (stopEffect_imeArmed ..)
  | jp_nz_a16 | jp_z_a16 | jp_nc_a16 | jp_c_a16 => exact opJpCC_keeps_imeArmed h
  | jr_nz_e8 | jr_z_e8 | jr_nc_e8 | jr_c_e8 => exact opJrCC_keeps_imeArmed h
  | call_nz_a16 | call_z_a16 | call_nc_a16 | call_c_a16 => exact opCallCC_keeps_imeArmed h
  | ret_nz | ret_z | ret_nc | ret_c => exact opRetCC_keeps_imeArmed h
  | prefix_cb => exact opCbByte_keeps_imeArmed h
  -- The rest change registers and the counter only, or the fault and RUNNING: IME_ARMED is not among them.
  | _ => exact imeArmed_of_next rfl h rfl

end

/-! ## The end-of-instruction IME update (46_system R800) -/

section
variable {s t : State}

theorem endOfInstruction_eq (armed : Bool) (t : State) : endOfInstruction armed t =
    if armed = true ∧ t.imeArmed = true then { t with ime := true, imeArmed := false } else t := by
  unfold endOfInstruction
  simp only [Bool.and_eq_true]

theorem endOfInstruction_notArmed (armed : Bool) (ht : t.imeArmed = false) : endOfInstruction armed t = t := by
  simp [endOfInstruction_eq, ht]

theorem afterInstruction_noFault (armed : Bool) (ht : t.fault = none) :
    afterInstruction armed t = interruptCheck (processEvents (endOfInstruction armed t)) := by
  simp [afterInstruction, ht]

theorem exec_ei_interrupts (h : exec .ei s = .next t) : t.ime = s.ime ∧ t.imeArmed = (s.imeArmed || !s.ime) := by
  obtain rfl := Host.Outcome.next.inj h
  cases hime : s.ime <;> simp [hime]

theorem exec_di_interrupts (h : exec .di s = .next t) : t.ime = false ∧ t.imeArmed = false := by
  obtain rfl := Host.Outcome.next.inj h
  exact ⟨rfl, rfl⟩

theorem exec_reti_interrupts (h : exec .reti s = .next t) : t.ime = true ∧ t.imeArmed = false := by
  obtain rfl := Host.Outcome.next.inj h
  exact ⟨rfl, rfl⟩

/-- An instruction but DI that starts with IME_ARMED set leaves it set, or has set IME itself (RETI). -/
theorem exec_armed {i : Instr} (hs : s.imeArmed = true) (hdi : i ≠ .di) (h : exec i s = .next t) :
    t.imeArmed = true ∨ t.ime = true ∧ t.imeArmed = false := by
  by_cases hreti : i = .reti
  · subst hreti
    exact .inr (exec_reti_interrupts h)
  by_cases hei : i = .ei
  · subst hei
    exact .inl (by simp [exec_ei_interrupts h, hs])
  exact .inl ((exec_keeps_imeArmed hdi hei hreti h).trans hs)

end

/-- Settles O40: IME_ARMED set at the start is still set before the update, or IME is already 1 (`exec_armed`); the premise
on the fault is not needed.  After DI nothing is armed, and EI from rest starts unarmed, so the update does nothing. -/
theorem eiTakesEffectAfterTheNextInstruction : Obligations.EiTakesEffectAfterTheNextInstruction := by
  unfold Obligations.EiTakesEffectAfterTheNextInstruction
  refine ⟨?update, ?armed, ?di, ?ei⟩
  case update =>
    intro a0 t ht
    exact ⟨_, rfl, by rw [afterInstruction_noFault a0 ht, endOfInstruction_eq]⟩
  case armed =>
    intro i s t hs hdi _ h
    obtain ht | ⟨hime, ht⟩ := exec_armed hs hdi h
    · simp [endOfInstruction_eq, hs, ht]
    · rw [endOfInstruction_notArmed _ ht]
      exact ⟨hime, ht⟩
  case di =>
    intro s t h
    have ht := exec_di_interrupts h
    rwa [endOfInstruction_notArmed _ ht.2]
  case ei =>
    intro s t hime hs h
    simp [endOfInstruction_eq, exec_ei_interrupts h, hime, hs]

end Sys2Proof.Proofs
end

section
/-! SUPPORT and proof of O56. The sprites of a line and the compositor (50_ppu R940, R944 and R945): which entries a line
takes, what the insertion sort by X keeps, and one equation per outcome of a composed pixel. -/

namespace Sys2Proof.Proofs

open Sys2Proof.Machine

/-! ## The sprites of a line -/

/-- OAM's entries whose rows reach line `ly`, in OAM order. -/
def oamOnLine (s : State) (ly : Byte) : List Sprite :=
  ((List.range 40).map (spriteAt s)).filter fun o => o.onLine (spriteHeight s) ly

theorem onLine_spriteHeight (s : State) (ly : Byte) (o : Sprite) : o.onLine (spriteHeight s) ly =
    decide (o.y.toNat ≤ ly.toNat + 16 ∧ ly.toNat + 16 < o.y.toNat + (if bit (s.ioByte 0x40) 2 then 16 else 8)) :=
  (Bool.decide_and ..).symm

theorem spritesOnLine_disabled {s : State} (ly : Byte) (hon : bit (s.ioByte 0x40) 1 = false) :
    spritesOnLine s ly = [] := by
  simp [spritesOnLine, hon]

theorem spritesOnLine_ten {s : State} (ly : Byte) (hon : bit (s.ioByte 0x40) 1 = true)
    (hlimit : s.params.spriteLineLimit = .ten) : spritesOnLine s ly = (oamOnLine s ly).take 10 := by
  simp [spritesOnLine, oamOnLine, hon, hlimit]

theorem spritesOnLine_unlimited {s : State} (ly : Byte) (hon : bit (s.ioByte 0x40) 1 = true)
    (hlimit : s.params.spriteLineLimit = .none) : spritesOnLine s ly = oamOnLine s ly := by
  simp [spritesOnLine, oamOnLine, hon, hlimit]

/-! ## The priority order -/

/-- The list is by rising X. -/
def ByX (l : List Sprite) : Prop := l.Pairwise fun o p => o.x.toNat ≤ p.x.toNat

/-- The library's insertion, by the strict order of X. -/
theorem insertSprite_eq_orderedInsert (o : Sprite) (l : List Sprite) :
    insertSprite o l = l.orderedInsert (fun o p => o.x.toNat < p.x.toNat) o := by
  induction l with
  | nil => rfl
  | cons p rest ih => simp [insertSprite, ih]

theorem insertSprite_perm (o : Sprite) (l : List Sprite) : (insertSprite o l).Perm (o :: l) :=
  insertSprite_eq_orderedInsert o l ▸ l.perm_orderedInsert _ o

theorem insertSprite_cons_of_lt {o p : Sprite} (rest : List Sprite) (hlt : o.x.toNat < p.x.toNat) :
    insertSprite o (p :: rest) = o :: p :: rest := if_pos hlt

theorem insertSprite_cons_of_not_lt {o p : Sprite} (rest : List Sprite) (hlt : ¬ o.x.toNat < p.x.toNat) :
    insertSprite o (p :: rest) = p :: insertSprite o rest := if_neg hlt

theorem insertSprite_byX {o : Sprite} {l : List Sprite} (hl : ByX l) : ByX (insertSprite o l) := by
  induction l with
  | nil => exact List.pairwise_singleton ..
  | cons p rest ih =>
    obtain ⟨hp, hrest⟩ := List.pairwise_cons.mp hl
    by_cases hlt : o.x.toNat < p.x.toNat
    · rw [insertSprite_cons_of_lt rest hlt]
      exact List.pairwise_cons.mpr ⟨List.forall_mem_cons.mpr ⟨hlt.le, fun q hq => hlt.le.trans (hp q hq)⟩, hl⟩
    · rw [insertSprite_cons_of_not_lt rest hlt]
      refine List.pairwise_cons.mpr ⟨fun q hq => ?_, ih hrest⟩
      obtain rfl | hq := List.mem_cons.mp ((insertSprite_perm o rest).mem_iff.mp hq)
      · exact not_lt.mp hlt
      · exact hp q hq

/-- Among the sprites of one X an inserted sprite comes last: whatever it is put before has a larger X. -/
theorem insertSprite_filter_x (o : Sprite) {l : List Sprite} (hl : ByX l) (x : Byte) :
    (insertSprite o l).filter (fun q => q.x == x) = (l ++ [o]).filter (fun q => q.x == x) := by
  induction l with
  | nil => rfl
  | cons p rest ih =>
    obtain ⟨hp, hrest⟩ := List.pairwise_cons.mp hl
    by_cases hlt : o.x.toNat < p.x.toNat
    · by_cases hx : o.x = x
      · have hlarger : ∀ q ∈ p :: rest, o.x.toNat < q.x.toNat :=
          List.forall_mem_cons.mpr ⟨hlt, fun q hq => hlt.trans_le (hp q hq)⟩
        have hnone : (p :: rest).filter (fun q => q.x == x) = [] := List.filter_eq_nil_iff.mpr fun q hq heq =>
          (hlarger q hq).ne (by rw [hx, ← beq_iff_eq.mp heq])
        rw [insertSprite_cons_of_lt rest hlt, List.filter_append, List.filter_cons, hnone]
        simp [hx]
      · simp [insertSprite_cons_of_lt rest hlt, List.filter_cons, hx]
    · rw [insertSprite_cons_of_not_lt rest hlt, List.cons_append, List.filter_cons, List.filter_cons, ih hrest]

theorem bySpritePriority_concat (l : List Sprite) (o : Sprite) :
    bySpritePriority (l ++ [o]) = insertSprite o (bySpritePriority l) := List.foldl_concat ..

theorem bySpritePriority_perm (l : List Sprite) : (bySpritePriority l).Perm l := by
  induction l using List.reverseRecOn with
  | nil => exact .nil
  | append_singleton l o ih =>
    calc bySpritePriority (l ++ [o])
      _ = insertSprite o (bySpritePriority l) := bySpritePriority_concat l o
      List.Perm _ (o :: bySpritePriority l) := insertSprite_perm ..
      List.Perm _ (o :: l) := ih.cons o
      List.Perm _ (l ++ [o]) := (List.perm_append_singleton o l).symm

theorem bySpritePriority_byX (l : List Sprite) : ByX (bySpritePriority l) := by
  induction l using List.reverseRecOn with
  | nil => exact .nil
  | append_singleton l o ih => exact bySpritePriority_concat l o ▸ insertSprite_byX ih

theorem bySpritePriority_filter_x (l : List Sprite) (x : Byte) :
    (bySpritePriority l).filter (fun q => q.x == x) = l.filter (fun q => q.x == x) := by
  induction l using List.reverseRecOn with
  | nil => rfl
  | append_singleton l o ih =>
    rw [bySpritePriority_concat, insertSprite_filter_x o (bySpritePriority_byX l), List.filter_append, ih,
      List.filter_append]

/-! ## The compositor -/

theorem foreground_eq (s : State) (o : Sprite) :
    o.foreground s = (!bit o.attr 7 || (s.cgbMode && !bit (s.ioByte 0x40) 0)) := by
  cases hc : s.cgbMode <;> simp [Sprite.foreground, masterPriority, hc]

section
variable (s : State) (sprites : List Sprite) (ly : Byte) (px : Nat)

/-- R945's first test: the background has priority over every sprite. -/
def bgOverSprites : Bool :=
  s.cgbMode && masterPriority s && bit (bgPixelAt s ly px).attr 7 && (bgPixelAt s ly px).index != 0

theorem bgOverSprites_iff : bgOverSprites s ly px = true ↔ s.cgbMode = true ∧ bit (s.ioByte 0x40) 0 = true ∧
    bit (bgPixelAt s ly px).attr 7 = true ∧ (bgPixelAt s ly px).index ≠ 0 := by
  cases hc : s.cgbMode <;> simp [bgOverSprites, masterPriority, hc, and_assoc]

/-- The first opaque foreground sprite. -/
def frontSprite : Option Sprite := sprites.find? fun o => o.foreground s && o.opaqueAt s ly px

/-- The first opaque background-priority sprite. -/
def backSprite : Option Sprite := sprites.find? fun o => !o.foreground s && o.opaqueAt s ly px

/-- R945 in one equation: behind the first test the front sprite shows, else over index 0 the back one, else the
background. -/
theorem composePixel_eq : composePixel s sprites ly px =
    if bgOverSprites s ly px then bgOut s (bgPixelAt s ly px)
    else ((frontSprite s sprites ly px).or
      (if (bgPixelAt s ly px).index = 0 then backSprite s sprites ly px else none)).elim
        (bgOut s (bgPixelAt s ly px)) (fun o => spriteOutAt s o ly px) := by
  unfold composePixel bgOverSprites frontSprite backSprite
  cases sprites.find? fun o => o.foreground s && o.opaqueAt s ly px with
  | some f => rfl
  | none =>
    cases sprites.find? fun o => !o.foreground s && o.opaqueAt s ly px with
    | some b =>
      by_cases hbg : (bgPixelAt s ly px).index = 0
      · simp only [if_pos hbg, Option.none_or, Option.elim_some]
      · simp only [if_neg hbg, Option.none_or, Option.elim_none]
    | none => simp

variable {s sprites ly px}

theorem composePixel_priorityTile (h : bgOverSprites s ly px = true) :
    composePixel s sprites ly px = bgOut s (bgPixelAt s ly px) := by
  simp [composePixel_eq, h]

section
variable (h : ¬ bgOverSprites s ly px = true)
include h

theorem composePixel_front {f : Sprite} (hf : frontSprite s sprites ly px = some f) :
    composePixel s sprites ly px = spriteOutAt s f ly px := by
  simp [composePixel_eq, h, hf]

theorem composePixel_back {b : Sprite} (hf : frontSprite s sprites ly px = none)
    (hb : backSprite s sprites ly px = some b) (hbg : (bgPixelAt s ly px).index = 0) :
    composePixel s sprites ly px = spriteOutAt s b ly px := by
  simp [composePixel_eq, h, hf, hb, hbg]

theorem composePixel_bg (hf : frontSprite s sprites ly px = none)
    (hb : backSprite s sprites ly px = none ∨ (bgPixelAt s ly px).index ≠ 0) :
    composePixel s sprites ly px = bgOut s (bgPixelAt s ly px) := by
  rw [composePixel_eq, if_neg h, hf, Option.none_or]
  obtain hb | hbg := hb
  · rw [hb, ite_self, Option.elim_none]
  · rw [if_neg hbg, Option.elim_none]

end
end

/-- Settles O56: the line's sprites by the enable bit and the limit; the order by the three invariants of inserting one
more sprite; the pixel by the compositor's first test, then the front and the back sprite. -/
theorem spritesAndCompositor : Obligations.SpritesAndCompositor := by
  unfold Obligations.SpritesAndCompositor
  simp only [← onLine_spriteHeight, ← foreground_eq]
  refine ⟨⟨?line, ?order⟩, ?compositor⟩
  case line =>
    rintro s ly _ rfl
    exact ⟨spritesOnLine_disabled ly, spritesOnLine_ten ly, spritesOnLine_unlimited ly⟩
  case order => exact fun l => ⟨bySpritePriority_perm l, bySpritePriority_byX l, bySpritePriority_filter_x l⟩
  case compositor =>
    rintro s sprites ly px _ _ _ _ rfl rfl rfl rfl
    refine ⟨fun hcgb hmaster hattr hindex =>
      composePixel_priorityTile ((bgOverSprites_iff ..).mpr ⟨hcgb, hmaster, hattr, hindex⟩), fun hno => ?_⟩
    have h : ¬ bgOverSprites s ly px = true := by
      simpa [bgOverSprites_iff, imp_iff_not_or] using hno
    exact ⟨fun _ => composePixel_front h, fun _ => composePixel_back h, composePixel_bg h⟩

end Sys2Proof.Proofs
end

section
/-! SUPPORT and proof of O57. Writes and reads of the sound registers on the bus (55_apu R1001, R1012 to R1015). -/

namespace Sys2Proof.Proofs

open Sys2Proof.Machine

/-! ## Bits and fields of a byte -/

theorem field_low3 (v : Byte) : field v 2 0 = v.toNat % 8 := by simp [field]

theorem field_low6 (v : Byte) : field v 5 0 = v.toNat % 64 := by simp [field]

theorem field_highNibble (v : Byte) : field v 7 4 = v.toNat / 16 :=
  Nat.mod_eq_of_lt (by have := v.isLt; omega)

theorem bit7_setBit (v : Byte) (b : Bool) : bit (setBit v 7 b) 7 = b := by
  cases b <;> simp [bit, setBit]

/-! ## Registers on the bus -/

theorem ioByte_setIo_same (s : State) (k : Nat) (v : Byte) : (s.setIo k v).ioByte k = v :=
  s.io.read_write_same k v

theorem ioByte_setIo_other (s : State) {j k : Nat} (v : Byte) (h : j ≠ k) : (s.setIo k v).ioByte j = s.ioByte j :=
  s.io.read_write_other v h

/-- The bus writes the register file at 0xFF00..0xFF7F (20_memory R211). -/
theorem memWrite_io (s : State) {a : Word} {k : Nat} (v : Byte) (ha : a.toNat = 0xFF00 + k) (hk : k < 0x80) :
    memWrite s a v = ioWrite s k v := by
  have below : ∀ n, n ≤ 0xFF00 → ¬ 0xFF00 + k < n := fun n hn => by omega
  have hplace : placeOf s a = .io k := by simp [placeOf, ha, below, show 0xFF00 + k < 0xFF80 by omega]
  unfold memWrite
  rw [hplace]
  rfl

section
variable {s : State} {a : Word} {k : Nat} (v : Byte)

theorem ioWriteReg_sound (hlo : 0x10 ≤ k) (hhi : k ≤ 0x25) : ioWriteReg s k v = writeSound s k v := by
  unfold ioWriteReg
  split
  case h_19 => exact if_pos ⟨hlo, hhi⟩
  all_goals omega

section
variable (ha : a.toNat = 0xFF00 + k) (hk : 0x10 ≤ k ∧ k ≤ 0x25 ∧ unusedIo k = false)
include ha hk

theorem memWrite_sound : memWrite s a v = writeSound s k v := by
  obtain ⟨hlo, hhi, hused⟩ := hk
  have hcgb : cgbOnlyIo k = false := by
    simp [cgbOnlyIo]
    omega
  rw [memWrite_io s v ha (by omega), ioWrite, if_neg (by simp [ioUnused, hused, hcgb])]
  exact ioWriteReg_sound v hlo hhi

theorem memWrite_sound_on (hon : apuOn s = true) : memWrite s a v = soundEffect (s.setIo k v) k v :=
  (memWrite_sound v ha hk).trans (if_pos hon)

/-- 55_apu R1014: powered off, the APU ignores a write of a sound register. -/
theorem memWrite_sound_off (hoff : apuOn s = false) : memWrite s a v = s :=
  (memWrite_sound v ha hk).trans (if_neg (by simp [hoff]))

end
end

theorem memWrite_nr52 (s : State) (v : Byte) : memWrite s 0xFF26 v = writeNr52 s v := by
  have hused : ioUnused s.cgbMode 0x26 = false := by cases s.cgbMode <;> rfl
  rw [memWrite_io s (k := 0x26) v (by decide) (by decide)]
  exact if_neg (by simp [hused])

/-! ## Triggers -/

theorem envDacOn_eq (nrx2 : Byte) : envDacOn nrx2 = decide (nrx2 &&& 0xF8 ≠ 0) := by
  rw [decide_not]
  rfl

theorem triggerEnvelope_eq (nrx2 : Byte) : triggerEnvelope nrx2 = ⟨nrx2.toNat / 16, 0⟩ := by
  rw [triggerEnvelope, field_highNibble]

theorem freqOf_eq (nrx3 nrx4 : Byte) : freqOf nrx3 nrx4 = nrx4.toNat % 8 * 256 + nrx3.toNat := by
  rw [freqOf, field_low3]

/-- The other registers when a trigger reads them: the byte is stored and the channel's length enable updated. -/
theorem ioByte_setIo_withApu_other (s : State) (a : Apu) {j k : Nat} (v : Byte) (h : j ≠ k) :
    State.ioByte { s.setIo k v with apu := a } j = s.ioByte j :=
  s.io.read_write_other v h

section
variable {s : State} {v : Byte} (hon : apuOn s = true) (hv : bit v 7 = true)
include hon hv

/-- 55_apu R1012, channel 1: the frequency is read with NR14 stored, so its high bits are `v`'s. -/
theorem memWrite_nr14_trigger : memWrite s 0xFF14 v = { s with
    io := s.io.write 0x14 v
    apu := { s.apu with
      ch1 := { enabled := envDacOn (s.ioByte 0x12) && !(decide (field (s.ioByte 0x10) 2 0 ≠ 0) &&
                 decide (sweepCalc (s.ioByte 0x10) (freqOf (s.ioByte 0x13) v) > 2047))
               length := if s.apu.ch1.length = 0 then 64 else s.apu.ch1.length
               lengthEnable := bit v 6, phase := 0 }
      env1 := ⟨(s.ioByte 0x12).toNat / 16, 0⟩
      shadowFreq := freqOf (s.ioByte 0x13) v, sweepTimer := 0 } } := by
  have hnr14 (a : Apu) : State.ioByte { s.setIo 0x14 v with apu := a } 0x14 = v := s.io.read_write_same 0x14 v
  rw [memWrite_sound_on (k := 0x14) v (by decide) (by decide) hon]
  refine (if_pos hv).trans ?_
  unfold trigger1 freq1
  rw [hnr14, ioByte_setIo_withApu_other s _ v (by decide : 0x10 ≠ 0x14),
    ioByte_setIo_withApu_other s _ v (by decide : 0x12 ≠ 0x14),
    ioByte_setIo_withApu_other s _ v (by decide : 0x13 ≠ 0x14), triggerEnvelope_eq]
  rfl

theorem memWrite_nr24_trigger : memWrite s 0xFF19 v = { s with
    io := s.io.write 0x19 v
    apu := { s.apu with
      ch2 := { enabled := decide (s.ioByte 0x17 &&& 0xF8 ≠ 0)
               length := if s.apu.ch2.length = 0 then 64 else s.apu.ch2.length
               lengthEnable := bit v 6, phase := 0 }
      env2 := ⟨(s.ioByte 0x17).toNat / 16, 0⟩ } } := by
  rw [memWrite_sound_on (k := 0x19) v (by decide) (by decide) hon]
  refine (if_pos hv).trans ?_
  unfold trigger2
  rw [ioByte_setIo_withApu_other s _ v (by decide : 0x17 ≠ 0x19), triggerEnvelope_eq, envDacOn_eq]
  rfl

theorem memWrite_nr34_trigger : memWrite s 0xFF1E v = { s with
    io := s.io.write 0x1E v
    apu := { s.apu with
      ch3 := { enabled := bit (s.ioByte 0x1A) 7
               length := if s.apu.ch3.length = 0 then 256 else s.apu.ch3.length
               lengthEnable := bit v 6, phase := 0 } } } := by
  rw [memWrite_sound_on (k := 0x1E) v (by decide) (by decide) hon]
  refine (if_pos hv).trans ?_
  unfold trigger3
  rw [ioByte_setIo_withApu_other s _ v (by decide : 0x1A ≠ 0x1E)]
  rfl

theorem memWrite_nr44_trigger : memWrite s 0xFF23 v = { s with
    io := s.io.write 0x23 v
    apu := { s.apu with
      ch4 := { enabled := decide (s.ioByte 0x21 &&& 0xF8 ≠ 0)
               length := if s.apu.ch4.length = 0 then 64 else s.apu.ch4.length
               lengthEnable := bit v 6, phase := 0 }
      env4 := ⟨(s.ioByte 0x21).toNat / 16, 0⟩
      lfsr := 0x7FFF } } := by
  rw [memWrite_sound_on (k := 0x23) v (by decide) (by decide) hon]
  refine (if_pos hv).trans ?_
  unfold trigger4
  rw [ioByte_setIo_withApu_other s _ v (by decide : 0x21 ≠ 0x23), triggerEnvelope_eq, envDacOn_eq]
  rfl

end

/-- 55_apu R1012 with R1035: channel 1 sounds unless its DAC is off or the sweep overflows at once. -/
theorem trigger1_enabled_iff (nr10 nr12 : Byte) (x : Nat) :
    (envDacOn nr12 && !(decide (field nr10 2 0 ≠ 0) && decide (sweepCalc nr10 x > 2047))) = true ↔
      nr12 &&& 0xF8 ≠ 0 ∧ (nr10.toNat % 8 = 0 ∨ sweepCalc nr10 x ≤ 2047) := by
  simp [envDacOn_eq, field_low3]

/-! ## Length loads -/

/-- 55_apu R1020: the four loads. -/
theorem memWrite_lengthLoads {s : State} (v : Byte) (hon : apuOn s = true) :
    memWrite s 0xFF11 v = { s with
      io := s.io.write 0x11 v
      apu := { s.apu with ch1 := { s.apu.ch1 with length := 64 - v.toNat % 64 } } } ∧
    memWrite s 0xFF16 v = { s with
      io := s.io.write 0x16 v
      apu := { s.apu with ch2 := { s.apu.ch2 with length := 64 - v.toNat % 64 } } } ∧
    memWrite s 0xFF1B v = { s with
      io := s.io.write 0x1B v
      apu := { s.apu with ch3 := { s.apu.ch3 with length := 256 - v.toNat } } } ∧
    memWrite s 0xFF20 v = { s with
      io := s.io.write 0x20 v
      apu := { s.apu with ch4 := { s.apu.ch4 with length := 64 - v.toNat % 64 } } } := by
  rw [memWrite_sound_on (k := 0x11) v (by decide) (by decide) hon,
    memWrite_sound_on (k := 0x16) v (by decide) (by decide) hon,
    memWrite_sound_on (k := 0x1B) v (by decide) (by decide) hon,
    memWrite_sound_on (k := 0x20) v (by decide) (by decide) hon, ← field_low6]
  exact ⟨rfl, rfl, rfl, rfl⟩

/-! ## Power (55_apu R1014) -/

/-- Powering off zeroes the sound registers and keeps every other byte of the register file. -/
theorem clearSoundRegs_read (n : Nat) (m : Memory) (j : Nat) : (clearSoundRegs n m).read j =
    if 0x10 ≤ j ∧ j < 0x10 + n ∧ soundGap j = false then 0x00 else m.read j := by
  induction n with
  | zero => exact (if_neg (by omega)).symm
  | succ n ih =>
    unfold clearSoundRegs
    by_cases hj : j = 0x10 + n
    · subst hj
      cases hgap : soundGap (0x10 + n) <;> simp [hgap, ih]
    · have hrange : j < 0x10 + (n + 1) ↔ j < 0x10 + n := by omega
      simp only [hrange, ← ih]
      split
      · rfl
      · exact Memory.read_write_other _ _ hj

theorem soundGap_of_used {j : Nat} (hused : unusedIo j = false) : soundGap j = false := by
  simp only [unusedIo, Bool.or_eq_false_iff] at hused
  simp [soundGap, hused]

section
variable {s : State} {v : Byte}

theorem writeNr52_powerOff (hon : apuOn s = true) (hv : bit v 7 = false) : writeNr52 s v = { s with
    io := clearSoundRegs 0x16 (s.io.write 0x26 (setBit (s.ioByte 0x26) 7 (bit v 7)))
    apu := { s.apu with
      ch1 := s.apu.ch1.powerOff, ch2 := s.apu.ch2.powerOff
      ch3 := s.apu.ch3.powerOff, ch4 := s.apu.ch4.powerOff } } :=
  if_pos (by rw [hon, hv]; rfl)

theorem writeNr52_stores (h : apuOn s = true → bit v 7 = true) :
    writeNr52 s v = s.setIo 0x26 (setBit (s.ioByte 0x26) 7 (bit v 7)) :=
  if_neg (by simpa using h)

theorem apuOn_writeNr52 : apuOn (writeNr52 s v) = bit v 7 := by
  have hstored : (writeNr52 s v).ioByte 0x26 = setBit (s.ioByte 0x26) 7 (bit v 7) := by
    by_cases h : apuOn s = true → bit v 7 = true
    · rw [writeNr52_stores h]
      exact ioByte_setIo_same ..
    · obtain ⟨hon, hv⟩ := Classical.not_imp.mp h
      rw [writeNr52_powerOff hon (Bool.eq_false_iff.mpr hv), State.ioByte, clearSoundRegs_read, if_neg (by decide)]
      exact Memory.read_write_same ..
  rw [apuOn, hstored, bit7_setBit]

theorem ioByte_writeNr52_powerOff (hon : apuOn s = true) (hv : bit v 7 = false) {j : Nat} (hlo : 0x10 ≤ j)
    (hhi : j ≤ 0x25) (hused : unusedIo j = false) : (writeNr52 s v).ioByte j = 0x00 := by
  rw [writeNr52_powerOff hon hv, State.ioByte, clearSoundRegs_read]
  exact if_pos ⟨hlo, by omega, soundGap_of_used hused⟩

end

/-! ## What NR52 reads (55_apu R1015) -/

theorem channelFlags_low (a : Apu) : channelFlags a &&& 0x0F =
    (if a.ch4.enabled then 0x08 else 0x00) ||| (if a.ch3.enabled then 0x04 else 0x00) |||
      (if a.ch2.enabled then 0x02 else 0x00) ||| (if a.ch1.enabled then 0x01 else 0x00) := by
  unfold channelFlags
  generalize a.ch1.enabled = e1, a.ch2.enabled = e2, a.ch3.enabled = e3, a.ch4.enabled = e4
  revert e1 e2 e3 e4
  decide

theorem nr52_high (b : Byte) : (b ||| 0x70) &&& ~~~0x0F = (if bit b 7 then 0x80 else 0x00) ||| 0x70 := by
  ext i hi
  cases h : bit b 7 <;> interval_cases i <;> simp_all [bit]

theorem memRead_nr52 {s : State} (hw : s.params.ioReadback = .hw) :
    memRead s 0xFF26 = mergeBits (s.ioByte 0x26 ||| 0x70) (channelFlags s.apu) 0x0F := by
  have hused : ioUnused s.cgbMode 0x26 = false := by cases s.cgbMode <;> rfl
  have hback : readback s 0x26 = s.ioByte 0x26 ||| 0x70 := by simp only [readback, hw, ioReadMask]
  have hbus : memRead s 0xFF26 = ioRead s 0x26 := memRead_io s (by decide) (by decide)
  rw [hbus, ← hback]
  exact if_neg (by simp [hused])

/-- Settles O57: each write is that of its register with the byte stored; powering off clears the registers one by one
(`clearSoundRegs_read`); NR52 shows its bit 7 and the channels' flags. -/
theorem soundTriggersAndPower : Obligations.SoundTriggersAndPower := by
  unfold Obligations.SoundTriggersAndPower
  intro s t v k x
  simp only [memWrite_nr52]
  refine ⟨?trigger1, ?trigger2, ?trigger3, ?trigger4, ?lengths, ?ignored, ?powerOff, ?powerOn, ?powerKept, ?nr52⟩
  case trigger1 =>
    rintro hon hv rfl rfl
    rw [memWrite_nr14_trigger hon hv, freqOf_eq]
    exact ⟨Memory.read_write_same .., rfl, rfl, rfl, rfl, rfl, rfl, trigger1_enabled_iff ..⟩
  case trigger2 => exact fun hon hv ht => ht.trans (memWrite_nr24_trigger hon hv)
  case trigger3 => exact fun hon hv ht => ht.trans (memWrite_nr34_trigger hon hv)
  case trigger4 => exact fun hon hv ht => ht.trans (memWrite_nr44_trigger hon hv)
  case lengths => exact memWrite_lengthLoads v
  case ignored =>
    intro hoff hlo hhi hused
    exact memWrite_sound_off v (by bv_omega) ⟨hlo, hhi, hused⟩ hoff
  case powerOff =>
    rintro hon hv rfl
    refine ⟨fun j => ioByte_writeNr52_powerOff hon hv, by rw [apuOn_writeNr52, hv], ?channels, ?wave⟩
    all_goals rw [writeNr52_powerOff hon hv]
    case channels => simp [Channel.powerOff]
  case powerOn =>
    rintro hoff hv rfl
    refine ⟨?_, by rw [apuOn_writeNr52, hv], ?_⟩
    all_goals rw [writeNr52_stores fun _ => hv]
    · rfl
    · exact fun j => ioByte_setIo_other s _
  case powerKept =>
    rintro heq rfl
    rw [writeNr52_stores fun hon => heq ▸ hon]
    exact ⟨rfl, fun j => ioByte_setIo_other s _⟩
  case nr52 =>
    intro hw
    rw [memRead_nr52 hw, mergeBits, nr52_high, channelFlags_low]
    simp only [BitVec.or_assoc]
    rfl

end Sys2Proof.Proofs
end

section
/-! SUPPORT and proof of O58. One frame tick (55_apu R1020, R1030, R1035 and R1060): the samples move only the generators,
the length counters decide which channels still sound, the envelopes follow them, and the sweep comes last. -/

namespace Sys2Proof.Proofs

open Sys2Proof.Machine

/-! ## The samples -/

/-- `a` with the generators' state of `b`: the phases and the noise register. -/
def withGenerators (a b : Apu) : Apu :=
  { a with
    ch1 := { a.ch1 with phase := b.ch1.phase }, ch2 := { a.ch2 with phase := b.ch2.phase }
    ch3 := { a.ch3 with phase := b.ch3.phase }, ch4 := { a.ch4 with phase := b.ch4.phase }
    lfsr := b.lfsr }

theorem oneSample_generators (s : State) : (oneSample s).2.apu = withGenerators s.apu (oneSample s).2.apu := by
  unfold oneSample sampleCh1 sampleCh2 sampleCh3 sampleCh4
  dsimp only
  repeat' split
  all_goals rfl

theorem samples_generators (n : Nat) (s : State) : (samples n s).2.apu = withGenerators s.apu (samples n s).2.apu := by
  induction n generalizing s with
  | zero => rfl
  | succ n ih =>
    change (samples n (oneSample s).2).2.apu = withGenerators s.apu (samples n (oneSample s).2).2.apu
    rw [ih, oneSample_generators]
    rfl

/-- 55_apu R1082: delivering samples moves the generators and tells the host. -/
theorem deliverSamples_generators (s : State) :
    ∃ (b : Apu) (h : HostSide), deliverSamples s = { s with apu := withGenerators s.apu b, host := h } := by
  have hapu : (deliverSamples s).apu = withGenerators s.apu (deliverSamples s).apu := by
    unfold deliverSamples
    generalize (if s.host.soundEnabled then s.host.sampleSlots else 0) = n
    by_cases hn : n = 0
    · simp only [if_pos hn]
      rfl
    · simp only [if_neg hn]
      exact samples_generators n s
  exact ⟨_, _, (deliverSamples_only s).trans (by rw [← hapu])⟩

/-! ## The length counters and the envelopes -/

/-- The channel sounds after its length tick (55_apu R1020). -/
def stillSounds (c : Channel) : Bool := c.enabled && !(c.lengthEnable && decide (c.length = 1))

section
variable (c : Channel)

theorem lengthTick_length : c.lengthTick.length = if c.lengthEnable then c.length - 1 else c.length := by
  unfold Channel.lengthTick
  cases c.lengthEnable with
  | false => rfl
  | true =>
    by_cases hpos : c.length > 0
    · simp [hpos]
    · simp [Nat.eq_zero_of_not_pos hpos]

theorem lengthTick_lengthEnable : c.lengthTick.lengthEnable = c.lengthEnable := by
  unfold Channel.lengthTick
  split <;> rfl

theorem lengthTick_enabled : c.lengthTick.enabled = stillSounds c := by
  unfold Channel.lengthTick stillSounds
  cases c.lengthEnable with
  | false => simp
  | true =>
    by_cases hpos : c.length > 0
    · have hlast : c.length - 1 = 0 ↔ c.length = 1 := by omega
      simp [hpos, hlast]
    · simp [Nat.eq_zero_of_not_pos hpos]

end

/-- 55_apu R1030: held, counting, or at its end. -/
theorem envelopeTick_cases (e : Envelope) (sounds : Bool) (nrx2 : Byte) :
    (sounds = false ∨ nrx2.toNat % 8 = 0 → e.tick sounds nrx2 = e) ∧
    (sounds = true → nrx2.toNat % 8 ≠ 0 → e.timer + 1 < nrx2.toNat % 8 →
      e.tick sounds nrx2 = ⟨e.volume, e.timer + 1⟩) ∧
    (sounds = true → nrx2.toNat % 8 ≠ 0 → nrx2.toNat % 8 ≤ e.timer + 1 →
      e.tick sounds nrx2 = ⟨if bit nrx2 3 then (if e.volume < 15 then e.volume + 1 else e.volume)
        else e.volume - 1, 0⟩) := by
  unfold Envelope.tick
  rw [field_low3]
  refine ⟨?held, ?counting, ?due⟩
  case held =>
    rintro (hoff | hzero)
    · simp [hoff]
    · simp [hzero]
  case counting =>
    intro hon hn hlt
    simp [hon, hn, Nat.not_le_of_lt hlt]
  case due =>
    intro hon hn hle
    simp [hon, hn, hle]

/-- `d` is `c` after its length tick; the phase may have moved (55_apu R1020). -/
structure ChannelTicked (c d : Channel) : Prop where
  length : d.length = if c.lengthEnable then c.length - 1 else c.length
  lengthEnable : d.lengthEnable = c.lengthEnable
  enabled : d.enabled = stillSounds c

theorem channelTicked (c : Channel) (q : Rat) : ChannelTicked c (Channel.lengthTick { c with phase := q }) :=
  ⟨lengthTick_length _, lengthTick_lengthEnable _, lengthTick_enabled _⟩

/-- What the first three steps of a tick leave for the sweep. -/
structure CountersTicked (s u : State) : Prop where
  io : u.io = s.io
  shadowFreq : u.apu.shadowFreq = s.apu.shadowFreq
  sweepTimer : u.apu.sweepTimer = s.apu.sweepTimer
  ch1 : ChannelTicked s.apu.ch1 u.apu.ch1
  ch2 : ChannelTicked s.apu.ch2 u.apu.ch2
  ch3 : ChannelTicked s.apu.ch3 u.apu.ch3
  ch4 : ChannelTicked s.apu.ch4 u.apu.ch4
  env1 : u.apu.env1 = s.apu.env1.tick (stillSounds s.apu.ch1) (s.ioByte 0x12)
  env2 : u.apu.env2 = s.apu.env2.tick (stillSounds s.apu.ch2) (s.ioByte 0x17)
  env4 : u.apu.env4 = s.apu.env4.tick (stillSounds s.apu.ch4) (s.ioByte 0x21)

theorem countersTicked (s : State) : CountersTicked s (envelopeTicks (lengthTicks (deliverSamples s))) := by
  obtain ⟨b, h, hs⟩ := deliverSamples_generators s
  have henvelope (e : Envelope) (c : Channel) (q : Rat) (r : Byte) :
      e.tick (Channel.enabled (Channel.lengthTick { c with phase := q })) r = e.tick (stillSounds c) r := by
    rw [(channelTicked c q).enabled]
  rw [hs]
  constructor
  case io | shadowFreq | sweepTimer => rfl
  case ch1 | ch2 | ch3 | ch4 => exact channelTicked ..
  case env1 | env2 | env4 => exact henvelope ..

/-! ## The frequency the sweep writes -/

section
variable (old v mask : Byte)

theorem mergeBits_and_mask : mergeBits old v mask &&& mask = v &&& mask := by
  ext i hi
  cases h : mask[i] <;> simp [mergeBits, h]

theorem mergeBits_and_notMask : mergeBits old v mask &&& ~~~mask = old &&& ~~~mask := by
  ext i hi
  cases h : mask[i] <;> simp [mergeBits, h]

end

/-- NR13 and NR14 after the sweep's update hold the new frequency (55_apu R1035). -/
theorem freqOf_written {f : Nat} (hf : f ≤ 2047) (nr14 : Byte) :
    freqOf (BitVec.ofNat 8 f) (mergeBits nr14 (BitVec.ofNat 8 (f / 256)) 0x07) = f := by
  have hhigh : (mergeBits nr14 (BitVec.ofNat 8 (f / 256)) 0x07).toNat % 8 = f / 256 := calc
    _ = (mergeBits nr14 (BitVec.ofNat 8 (f / 256)) 0x07 &&& 0x07).toNat := (toNat_and_lowBits _ 3 (by decide)).symm
    _ = (BitVec.ofNat 8 (f / 256)).toNat % 8 := by rw [mergeBits_and_mask]; exact toNat_and_lowBits _ 3 (by decide)
    _ = f / 256 := by rw [BitVec.toNat_ofNat]; omega
  rw [freqOf_eq, hhigh, BitVec.toNat_ofNat]
  omega

/-! ## The sweep -/

/-- The sweep can stop channel 1 and change its frequency and its own counters, and nothing else of the APU. -/
theorem sweepTick_apu (s : State) : (sweepTick s).apu = { s.apu with
    ch1 := { s.apu.ch1 with enabled := (sweepTick s).apu.ch1.enabled }
    shadowFreq := (sweepTick s).apu.shadowFreq
    sweepTimer := (sweepTick s).apu.sweepTimer } := by
  unfold sweepTick sweepUpdate
  dsimp only
  repeat' split
  all_goals rfl

section
variable {s : State}

theorem sweepTick_held (h : s.apu.ch1.enabled = false ∨ field (s.ioByte 0x10) 6 4 = 0) : sweepTick s = s := by
  refine if_neg ?_
  obtain h | h := h <;> simp [h]

section
variable (hon : s.apu.ch1.enabled = true) (hperiod : field (s.ioByte 0x10) 6 4 ≠ 0)
include hon hperiod

theorem sweepTick_counting (hlt : s.apu.sweepTimer + 1 < field (s.ioByte 0x10) 6 4) :
    sweepTick s = { s with apu := { s.apu with sweepTimer := s.apu.sweepTimer + 1 } } := by
  simp [sweepTick, hon, hperiod, Nat.not_le_of_lt hlt]

theorem sweepTick_due (hle : field (s.ioByte 0x10) 6 4 ≤ s.apu.sweepTimer + 1) : sweepTick s = sweepUpdate s := by
  simp [sweepTick, hon, hperiod, hle]

end

variable {f : Nat} (hf : f = sweepCalc (s.ioByte 0x10) s.apu.shadowFreq)
include hf

theorem sweepUpdate_overflow (hover : 2047 < f) : sweepUpdate s = { s with
    apu := { s.apu with ch1 := { s.apu.ch1 with enabled := false }, sweepTimer := 0 } } := by
  subst hf
  exact if_pos hover

theorem sweepUpdate_unshifted (hfits : f ≤ 2047) (hshift : field (s.ioByte 0x10) 2 0 = 0) :
    sweepUpdate s = { s with apu := { s.apu with sweepTimer := 0 } } := by
  subst hf
  exact (if_neg (Nat.not_lt_of_le hfits)).trans (if_neg (not_not.mpr hshift))

theorem sweepUpdate_shifted (hfits : f ≤ 2047) (hshift : field (s.ioByte 0x10) 2 0 ≠ 0) :
    sweepUpdate s = { s with
      io := (s.io.write 0x13 (BitVec.ofNat 8 f)).write 0x14 (mergeBits (s.ioByte 0x14) (BitVec.ofNat 8 (f / 256)) 0x07)
      apu := { s.apu with shadowFreq := f, sweepTimer := 0 } } := by
  subst hf
  exact (if_neg (Nat.not_lt_of_le hfits)).trans (if_pos hshift)

/-- The new frequency stands in NR13 and NR14[2:0]; the rest of NR14 is kept. -/
theorem sweepUpdate_registers (hfits : f ≤ 2047) (hshift : field (s.ioByte 0x10) 2 0 ≠ 0) :
    freq1 (sweepUpdate s) = f ∧ (sweepUpdate s).ioByte 0x14 &&& 0xF8 = s.ioByte 0x14 &&& 0xF8 := by
  rw [sweepUpdate_shifted hf hfits hshift]
  unfold freq1 State.ioByte
  rw [Memory.read_write_same, Memory.read_write_other _ _ (by decide : 0x13 ≠ 0x14), Memory.read_write_same]
  exact ⟨freqOf_written hfits _, mergeBits_and_notMask _ _ 0x07⟩

end

/-- Settles O58: the first three steps leave `CountersTicked`; the sweep then takes one of R1035's cases and touches
nothing of the other channels, the lengths and the envelopes. -/
theorem soundFrameTick : Obligations.SoundFrameTick := by
  unfold Obligations.SoundFrameTick
  rintro s t after ht hafter
  obtain rfl : after = stillSounds := hafter
  refine ⟨fun hoff => ht.trans (if_neg (by simp [hoff])), fun hon => ?_⟩
  replace ht : t = sweepTick _ := ht.trans (if_pos hon)
  have hc := countersTicked s
  generalize envelopeTicks (lengthTicks (deliverSamples s)) = u at ht hc
  subst ht
  refine ⟨?lengths, ?enabled, ?envelopes, ?sweep⟩
  case lengths =>
    rw [sweepTick_apu]
    simp only [List.forall_mem_cons]
    exact ⟨⟨hc.ch1.length, hc.ch1.lengthEnable⟩, ⟨hc.ch2.length, hc.ch2.lengthEnable⟩,
      ⟨hc.ch3.length, hc.ch3.lengthEnable⟩, ⟨hc.ch4.length, hc.ch4.lengthEnable⟩, List.forall_mem_nil _⟩
  case enabled =>
    rw [sweepTick_apu]
    simp only [List.forall_mem_cons]
    exact ⟨hc.ch2.enabled, hc.ch3.enabled, hc.ch4.enabled, List.forall_mem_nil _⟩
  case envelopes =>
    rw [sweepTick_apu]
    simp only [List.forall_mem_cons, hc.env1, hc.env2, hc.env4]
    exact ⟨envelopeTick_cases .., envelopeTick_cases .., envelopeTick_cases .., List.forall_mem_nil _⟩
  case sweep =>
    have hreg (j : Nat) : s.ioByte j = u.ioByte j := congrArg (Memory.read · j) hc.io.symm
    intro period f hperiod hf
    simp only [hreg, ← hc.io, ← hc.shadowFreq, ← hc.sweepTimer, ← hc.ch1.enabled, ← field_low3] at hperiod hf ⊢
    subst hperiod
    refine ⟨fun h => ?held, fun hon hperiod hlt => ?counting, fun hon hperiod hle => ?due⟩
    case held =>
      rw [sweepTick_held h]
      exact ⟨rfl, rfl, rfl, rfl⟩
    case counting =>
      rw [sweepTick_counting hon hperiod hlt]
      exact ⟨hon, rfl, rfl, rfl⟩
    case due =>
      rw [sweepTick_due hon hperiod hle]
      obtain hover | hfits := Nat.lt_or_ge 2047 f
      · rw [sweepUpdate_overflow hf hover]
        exact ⟨rfl, fun _ => ⟨rfl, rfl, rfl⟩, fun hfits => absurd hover (Nat.not_lt_of_le hfits)⟩
      · have hno (hover : 2047 < f) := Nat.not_lt_of_le hfits hover
        by_cases hshift : field (u.ioByte 0x10) 2 0 = 0
        · rw [sweepUpdate_unshifted hf hfits hshift]
          exact ⟨rfl, fun hover => (hno hover).elim, fun _ => ⟨hon, fun _ => ⟨rfl, rfl⟩, fun h => absurd hshift h⟩⟩
        · obtain ⟨hfreq, hnr14⟩ := sweepUpdate_registers hf hfits hshift
          rw [sweepUpdate_shifted hf hfits hshift] at hfreq hnr14 ⊢
          exact ⟨rfl, fun hover => (hno hover).elim,
            fun _ => ⟨hon, fun h => absurd h hshift, fun _ => ⟨rfl, hfreq, hnr14⟩⟩⟩

end Sys2Proof.Proofs
end

section
/-! SUPPORT and proofs of O1 to O4, O7 and O30. The opcode maps against the encoder (30_encoding R400 to R411): what an entry
of either table says about its byte, from which decoding is inverted once. -/

namespace Sys2Proof.Proofs

open Sys2Proof.Machine

/-! ## The entries of the opcode maps (30_encoding R401, R406 to R408) -/

/-- An entry of the base map fits its byte `o`: the encodings of its instructions begin with `o` and hold their operands,
the instructions are well-formed, and they stand for an undefined opcode exactly if `o` is listed as one. -/
inductive RowFits (o : Byte) : OpRow → Prop where
  | op (i : Instr) (hi : encode i = [o] ∧ i.wf = true ∧ i.isIllegal = decide (o ∈ undefinedOpcodes)) : RowFits o (.op i)
  | imm8 (f : Byte → Instr)
      (hf : ∀ n, encode (f n) = [o, n] ∧ (f n).wf = true ∧ (f n).isIllegal = decide (o ∈ undefinedOpcodes)) :
      RowFits o (.imm8 f)
  | imm16 (f : Word → Instr)
      (hf : ∀ nn, encode (f nn) = [o, lowByte nn, highByte nn] ∧ (f nn).wf = true ∧
        (f nn).isIllegal = decide (o ∈ undefinedOpcodes)) : RowFits o (.imm16 f)
  | cbPrefix (ho : o = 0xCB) : RowFits o .cbPrefix

-- The table has 256 entries, each a conjunct.
set_option maxRecDepth 4000 in
/-- Every entry of the base map, with its index, fits the byte of that index. -/
theorem baseTable_zipIdx_fits : ∀ p ∈ Decode.baseTable.zipIdx, RowFits (BitVec.ofNat 8 p.2) p.1 := by
  simp only [Decode.baseTable, Decode.base0, Decode.base1, Decode.base2, Decode.base3, Decode.base4, Decode.base5,
    Decode.base6, Decode.base7, Decode.base8, Decode.base9, Decode.baseA, Decode.baseB, Decode.baseC, Decode.baseD,
    Decode.baseE, Decode.baseF, List.cons_append, List.nil_append, List.zipIdx_cons, List.zipIdx_nil,
    List.forall_mem_cons, List.not_mem_nil, false_imp_iff, implies_true, and_true]
  and_intros
  all_goals constructor
  all_goals intros
  all_goals and_intros
  all_goals rfl

theorem baseTable_fits {o : Byte} {row : OpRow} (h : Decode.baseTable[o.toNat]? = some row) : RowFits o row := by
  have hmem : (row, o.toNat) ∈ Decode.baseTable.zipIdx := List.mk_mem_zipIdx_iff_getElem?.mpr h
  simpa using baseTable_zipIdx_fits _ hmem

/-- Every entry of the CB map is the well-formed, defined instruction that 0xCB and the byte encode. -/
theorem cbTable_fits : ∀ (c : Byte), ∀ i ∈ Decode.cbTable[c.toNat]?,
    encode i = [0xCB, c] ∧ i.wf = true ∧ i.isIllegal = false := by decide +kernel

/-! ## Decoding inverted (30_encoding R405, R409) -/

theorem baseTable_row (o : Byte) : ∃ row, Decode.baseTable[o.toNat]? = some row :=
  Option.isSome_iff_exists.mp (Laws.baseTable_full o)

/-- What decodes was the encoding of a well-formed instruction: the row of the first byte says how many bytes were
read, and they are those the row's instruction is encoded by. -/
theorem eq_encode_of_decode {bytes rest : List Byte} {i : Instr} (h : decode bytes = .ok (i, rest)) :
    bytes = encode i ++ rest ∧ i.wf = true := by
  cases bytes with
  | nil => cases h
  | cons o tail =>
    obtain ⟨row, hrow⟩ := baseTable_row o
    simp only [decode, hrow] at h
    cases baseTable_fits hrow with
    | op j hj =>
      obtain ⟨rfl, rfl⟩ := Prod.mk.inj (Except.ok.inj h)
      simp [hj]
    | imm8 f hf =>
      cases tail with
      | nil => cases h
      | cons n tail =>
        obtain ⟨rfl, rfl⟩ := Prod.mk.inj (Except.ok.inj h)
        simp [hf]
    | imm16 f hf =>
      match tail with
      | [] | [_] => cases h
      | lo :: hi :: tail =>
        obtain ⟨rfl, rfl⟩ := Prod.mk.inj (Except.ok.inj h)
        simp [hf]
    | cbPrefix ho =>
      cases tail with
      | nil => cases h
      | cons c tail =>
        obtain ⟨j, hj⟩ := Option.isSome_iff_exists.mp (Laws.cbTable_full c)
        simp only [hj] at h
        obtain ⟨rfl, rfl⟩ := Prod.mk.inj (Except.ok.inj h)
        simp [ho, cbTable_fits c j hj]

/-- Decoding an encoding computes the instruction; only a word operand has to be put together again. -/
theorem encodes_encode {i : Instr} (h : i.wf = true) : encodes (encode i) i := by
  cases i with
  | prefix_cb c => cases h
  | ld_bc_d16 | ld_de_d16 | ld_hl_d16 | ld_sp_d16 | ld_atA16_sp | ld_atA16_a | ld_a_atA16 | jp_a16 | jp_nz_a16 | jp_z_a16
    | jp_nc_a16 | jp_c_a16 | call_a16 | call_nz_a16 | call_z_a16 | call_nc_a16 | call_c_a16 => exact encodes_of_imm16 rfl _
  | _ => exact fun _ => rfl

/-! ## The statements -/

/-- Settles O1: each word decodes by computation. -/
theorem decodeOfWordsFromTheOpcodeMaps : Obligations.DecodeOfWordsFromTheOpcodeMaps := by
  unfold Obligations.DecodeOfWordsFromTheOpcodeMaps
  and_intros
  all_goals rfl

/-- Settles O2: one way by the constructors, the other by the tables' entries. -/
theorem decodeAndEncodeAgree : Obligations.DecodeAndEncodeAgree := by
  unfold Obligations.DecodeAndEncodeAgree
  exact ⟨fun i hi => encodes_encode hi, fun bytes i rest h => eq_encode_of_decode h⟩

/-- Settles O3: the length is that of the first byte's row. -/
theorem firstByteFixesTheLength : Obligations.FirstByteFixesTheLength := by
  unfold Obligations.FirstByteFixesTheLength
  intro a
  obtain ⟨row, hrow⟩ := baseTable_row a
  have hnotPrefix (hne : row ≠ .cbPrefix) : a ≠ 0xCB := by
    rintro rfl
    exact hne (Option.some.inj hrow).symm
  cases baseTable_fits hrow with
  | op i hi =>
    refine ⟨1, by decide, by decide, fun ha => absurd ha (hnotPrefix (by simp)), fun b c => ⟨i, ?_, by simp [hi]⟩⟩
    simp only [decode, hrow, List.drop_succ_cons, List.drop_zero]
  | imm8 f hf =>
    refine ⟨2, by decide, by decide, fun _ => rfl, fun b c => ⟨f b, ?_, by simp [hf]⟩⟩
    simp only [decode, hrow, List.drop_succ_cons, List.drop_zero]
  | imm16 f hf =>
    refine ⟨3, by decide, by decide, fun ha => absurd ha (hnotPrefix (by simp)),
      fun b c => ⟨f (joinWord c b), ?_, by simp [hf]⟩⟩
    simp only [decode, hrow, List.drop_succ_cons, List.drop_zero]
  | cbPrefix ha =>
    refine ⟨2, by decide, by decide, fun _ => rfl, fun b c => ?_⟩
    obtain ⟨i, hi⟩ := Option.isSome_iff_exists.mp (Laws.cbTable_full b)
    refine ⟨i, ?_, ?_⟩
    · simp only [decode, hrow, hi, List.drop_succ_cons, List.drop_zero]
    · obtain ⟨-, -, hlegal⟩ := cbTable_fits b i hi
      rw [hlegal, ha]
      decide

/-! ## The 0xCB row (44_rotate R705) -/

-- The table has 256 entries, each a conjunct.
set_option maxRecDepth 4000 in
/-- Every entry of the CB map, with its index, has the meaning of the 0xCB row with that byte: the fields of the byte
select the entry's operation, operand and cost (30_encoding R402, R407). -/
theorem cbTable_zipIdx_exec : ∀ p ∈ Decode.cbTable.zipIdx, ∀ s, exec (.prefix_cb (BitVec.ofNat 8 p.2)) s = exec p.1 s := by
  simp only [Decode.cbTable, Decode.cb0, Decode.cb1, Decode.cb2, Decode.cb3, Decode.cb4, Decode.cb5, Decode.cb6,
    Decode.cb7, Decode.cb8, Decode.cb9, Decode.cbA, Decode.cbB, Decode.cbC, Decode.cbD, Decode.cbE, Decode.cbF,
    List.cons_append, List.nil_append, List.zipIdx_cons, List.zipIdx_nil, List.forall_mem_cons, List.not_mem_nil,
    false_imp_iff, implies_true, and_true]
  and_intros
  all_goals intro s
  all_goals rfl

theorem exec_prefix_cb_eq {c : Byte} {i : Instr} (h : Decode.cbTable[c.toNat]? = some i) (s : State) :
    exec (.prefix_cb c) s = exec i s := by
  have hmem : (i, c.toNat) ∈ Decode.cbTable.zipIdx := List.mk_mem_zipIdx_iff_getElem?.mpr h
  simpa using cbTable_zipIdx_exec _ hmem s

/-! ## Every instruction and every step answers a next state -/

/-- The conditional forms answer one of two next states, every other form the one it computes. -/
theorem exec_next_of_wf {i : Instr} (h : i.wf = true) (s : State) : ∃ t, exec i s = .next t := by
  cases i with
  | prefix_cb c => cases h
  | jp_nz_a16 | jp_z_a16 | jp_nc_a16 | jp_c_a16 => exact ⟨_, opJpCC_eq ..⟩
  | jr_nz_e8 | jr_z_e8 | jr_nc_e8 | jr_c_e8 => exact ⟨_, opJrCC_eq ..⟩
  | call_nz_a16 | call_z_a16 | call_nc_a16 | call_c_a16 => exact ⟨_, opCallCC_eq ..⟩
  | ret_nz | ret_z | ret_nc | ret_c => exact ⟨_, opRetCC_eq ..⟩
  | _ => exact ⟨_, rfl⟩

/-- The only instruction that is not well-formed is the 0xCB row. -/
theorem eq_prefix_cb_of_not_wf {i : Instr} (h : ¬ i.wf = true) : ∃ c, i = .prefix_cb c := by
  cases i with
  | prefix_cb c => exact ⟨c, rfl⟩
  | _ => exact absurd rfl h

theorem exec_next (i : Instr) (s : State) : ∃ t, exec i s = .next t := by
  by_cases h : i.wf = true
  · exact exec_next_of_wf h s
  · obtain ⟨c, rfl⟩ := eq_prefix_cb_of_not_wf h
    obtain ⟨j, hj⟩ := Option.isSome_iff_exists.mp (Laws.cbTable_full c)
    obtain ⟨-, hwf, -⟩ := cbTable_fits c j hj
    exact exec_prefix_cb_eq hj s ▸ exec_next_of_wf hwf s

/-- The byte after the opcode byte is read from PC again when the opcode fetch does not move PC (46_system R802). -/
theorem fetchBytes_eq (s : State) : ∃ q, q = (if s.haltRepeat then s.regs.pc else s.regs.pc + 1) ∧
    fetchBytes s = [memRead s s.regs.pc, memRead s q, memRead s (q + 1)] := by
  refine ⟨_, rfl, ?_⟩
  unfold fetchBytes
  split
  · rfl
  · rw [BitVec.add_assoc]
    rfl

theorem instructionStep_next (s : State) : ∃ t, instructionStep s = .next t := by
  obtain ⟨q, -, hfetch⟩ := fetchBytes_eq s
  obtain ⟨i, rest, hdecode⟩ := Laws.decode_three_bytes (memRead s s.regs.pc) (memRead s q) (memRead s (q + 1))
  obtain ⟨t, ht⟩ := exec_next i s
  exact ⟨_, by simp only [instructionStep, hfetch, hdecode, ht]; rfl⟩

theorem step_next (s : State) : ∃ t, step s = .next t := by
  unfold step
  dsimp only
  split
  · exact ⟨_, rfl⟩
  split
  · exact ⟨_, rfl⟩
  split
  · exact ⟨_, rfl⟩
  · exact instructionStep_next _

/-- Settles O7: decoding the three bytes of a fetch never fails, and `exec` answers a next state. -/
theorem everyStepAnswersNext : Obligations.EveryStepAnswersNext := by
  unfold Obligations.EveryStepAnswersNext
  exact ⟨exec_next, step_next⟩

/-- Settles O30. -/
theorem prefixCbRunsTheCbTable : Obligations.PrefixCbRunsTheCbTable := by
  unfold Obligations.PrefixCbRunsTheCbTable
  intro c s
  obtain ⟨i, hi⟩ := Option.isSome_iff_exists.mp (Laws.cbTable_full c)
  obtain ⟨t, ht⟩ := exec_next i s
  exact ⟨i, t, hi, encodes_of_cb hi, ht, (exec_prefix_cb_eq hi s).trans ht⟩

/-! ## The bytes at PC (60_exceptions R1101, 46_system R802) -/

theorem length_encode_le (i : Instr) : (encode i).length ≤ 3 := by
  cases i with
  | _ => exact Nat.le_of_ble_eq_true rfl

/-- An instruction's bytes at PC are the first of the three a fetch supplies. -/
theorem fetchBytes_eq_append {s : State} {o : Byte} {operands : List Byte} (ho : memRead s s.regs.pc = o)
    (hat : bytesAt s (if s.haltRepeat then s.regs.pc else s.regs.pc + 1) operands) (hlen : operands.length ≤ 2) :
    ∃ rest, fetchBytes s = (o :: operands) ++ rest := by
  obtain ⟨q, hq, hfetch⟩ := fetchBytes_eq s
  rw [← hq] at hat
  rw [hfetch, ho]
  match operands with
  | [] => exact ⟨_, rfl⟩
  | [x] =>
    have hx : memRead s q = x := by simpa using hat 0 (by simp)
    exact ⟨_, by rw [hx]; rfl⟩
  | [x, y] =>
    have hx : memRead s q = x := by simpa using hat 0 (by simp)
    have hy : memRead s (q + 1) = y := hat 1 (by simp)
    exact ⟨_, by rw [hx, hy]; rfl⟩

/-- Settles O4: the bytes fetched begin with the instruction's encoding, so they decode to it. -/
theorem stepRunsTheDecodedInstruction : Obligations.StepRunsTheDecodedInstruction := by
  unfold Obligations.StepRunsTheDecodedInstruction
  rintro s u t i o operands hfault hrunning rfl hstopped hhalted hwf hencode ho hat hexec
  have hlen : operands.length ≤ 2 := by
    have := length_encode_le i
    rw [hencode, List.length_cons] at this
    omega
  obtain ⟨rest, hfetch⟩ := fetchBytes_eq_append ho hat hlen
  have hdecode : decode (fetchBytes (consumeInput s)) = .ok (i, rest) := by
    rw [hfetch, ← hencode]
    exact encodes_encode hwf rest
  simp [step, hfault, hrunning, hstopped, hhalted, instructionStep, hdecode, hexec, afterInstruction]

end Sys2Proof.Proofs
end

section
/-! SUPPORT. What a bus write and an event can do to the devices, said once: each is a sequence of touches, and an
invariant that every touch keeps is kept by every bus write and every event. -/

namespace Sys2Proof.Proofs

open Sys2Proof.Machine

/-! ## The RTC's masks (25_cartridge R342 to R345) -/

/-- A byte below a power of two has only the bits below it. -/
theorem and_lowMask_of_lt {n : Nat} (k : Nat) (hk : k ≤ 8) (hn : n < 2 ^ k) :
    BitVec.ofNat 8 n &&& BitVec.ofNat 8 (2 ^ k - 1) = BitVec.ofNat 8 n := by
  have h8 : 2 ^ k ≤ 2 ^ 8 := Nat.pow_le_pow_right (by decide) hk
  apply BitVec.eq_of_toNat_eq
  rw [toNat_and_lowMask _ hk, BitVec.toNat_ofNat, Nat.mod_eq_of_lt (by omega : n < 2 ^ 8), Nat.mod_eq_of_lt hn]

/-- The five registers one by one. -/
theorem rtc_wf_iff (r : Rtc) : Rtc.wf r ↔ r.s &&& 0x3F = r.s ∧ r.m &&& 0x3F = r.m ∧ r.h &&& 0x1F = r.h ∧
    r.dl &&& 0xFF = r.dl ∧ r.dh &&& 0xC1 = r.dh := by
  constructor
  · exact fun h => ⟨h 0 (by decide), h 1 (by decide), h 2 (by decide), h 3 (by decide), h 4 (by decide)⟩
  · rintro ⟨hs, hm, hh, hdl, hdh⟩ j hj
    interval_cases j
    · exact hs
    · exact hm
    · exact hh
    · exact hdl
    · exact hdh

theorem byte_and_ff (v : Byte) : v &&& 0xFF = v := BitVec.and_allOnes

/-- The carry bit and the day's ninth bit stay within the mask of DH. -/
theorem dh_carry_mask : ∀ dh : Byte, dh &&& 0xC1 = dh → (dh &&& 0xFE ||| 0x80) &&& 0xC1 = dh &&& 0xFE ||| 0x80 := by
  decide +kernel

theorem dh_day_mask : ∀ dh : Byte, dh &&& 0xC1 = dh → ∀ n, n < 2 →
    (dh &&& 0xFE ||| BitVec.ofNat 8 n) &&& 0xC1 = dh &&& 0xFE ||| BitVec.ofNat 8 n := by
  decide +kernel

section
variable {r : Rtc} (h : Rtc.wf r)
include h

theorem nextDay_wf : Rtc.wf r.nextDay := by
  obtain ⟨hs, hm, hh, -, hdh⟩ := (rtc_wf_iff r).mp h
  have hday : (r.dl.toNat + 256 * (r.dh.toNat % 2) + 1) / 256 < 2 ∨
      r.dl.toNat + 256 * (r.dh.toNat % 2) + 1 = 512 := by
    have := r.dl.isLt
    omega
  unfold Rtc.nextDay
  dsimp only
  split
  · exact (rtc_wf_iff _).mpr ⟨hs, hm, hh, byte_and_ff _, dh_carry_mask _ hdh⟩
  · exact (rtc_wf_iff _).mpr ⟨hs, hm, hh, byte_and_ff _, dh_day_mask _ hdh _ (hday.resolve_right ‹_›)⟩

theorem nextHour_wf : Rtc.wf r.nextHour := by
  obtain ⟨hs, hm, hh, hdl, hdh⟩ := (rtc_wf_iff r).mp h
  unfold Rtc.nextHour
  split
  · exact nextDay_wf ((rtc_wf_iff _).mpr ⟨hs, hm, BitVec.zero_and, hdl, hdh⟩)
  · exact (rtc_wf_iff _).mpr ⟨hs, hm, and_lowMask_of_lt 5 (by decide) (Nat.mod_lt _ (by decide)), hdl, hdh⟩

theorem nextMinute_wf : Rtc.wf r.nextMinute := by
  obtain ⟨hs, hm, hh, hdl, hdh⟩ := (rtc_wf_iff r).mp h
  unfold Rtc.nextMinute
  split
  · exact nextHour_wf ((rtc_wf_iff _).mpr ⟨hs, BitVec.zero_and, hh, hdl, hdh⟩)
  · exact (rtc_wf_iff _).mpr ⟨hs, and_lowMask_of_lt 6 (by decide) (Nat.mod_lt _ (by decide)), hh, hdl, hdh⟩

theorem tick_wf : Rtc.wf r.tick := by
  obtain ⟨hs, hm, hh, hdl, hdh⟩ := (rtc_wf_iff r).mp h
  unfold Rtc.tick
  split
  · exact h
  split
  · exact nextMinute_wf ((rtc_wf_iff _).mpr ⟨BitVec.zero_and, hm, hh, hdl, hdh⟩)
  · exact (rtc_wf_iff _).mpr ⟨and_lowMask_of_lt 6 (by decide) (Nat.mod_lt _ (by decide)), hm, hh, hdl, hdh⟩

theorem ticks_wf (n : Nat) : Rtc.wf (Rtc.ticks n r) := by
  induction n generalizing r with
  | zero => exact h
  | succ n ih => exact ih (tick_wf h)

theorem set_wf (j : Nat) (v : Byte) : Rtc.wf (r.set j v) := by
  obtain ⟨hs, hm, hh, hdl, hdh⟩ := (rtc_wf_iff r).mp h
  have hmask (j : Nat) : v &&& rtcMask j &&& rtcMask j = v &&& rtcMask j := by rw [BitVec.and_assoc, BitVec.and_self]
  unfold Rtc.set
  split
  · exact (rtc_wf_iff _).mpr ⟨hmask 0, hm, hh, hdl, hdh⟩
  · exact (rtc_wf_iff _).mpr ⟨hs, hmask 1, hh, hdl, hdh⟩
  · exact (rtc_wf_iff _).mpr ⟨hs, hm, hmask 2, hdl, hdh⟩
  · exact (rtc_wf_iff _).mpr ⟨hs, hm, hh, hmask 3, hdh⟩
  · exact (rtc_wf_iff _).mpr ⟨hs, hm, hh, hdl, hmask 4⟩

end

/-! ## The controller's registers -/

/-- The part of `MapperInv` about the mapper. -/
structure MapperRegsInv (k : CartKind) (m : Mapper) : Prop where
  banks : banksInRange k m
  rtc : Rtc.wf m.rtc
  rtcLatched : Rtc.wf m.rtcLatched

theorem coerceBank_range {v mask : Byte} : 1 ≤ coerceBank (v &&& mask).toNat ∧
    coerceBank (v &&& mask).toNat ≤ max 1 mask.toNat := by
  have hle : (v &&& mask).toNat ≤ mask.toNat := by
    rw [BitVec.toNat_and]
    exact Nat.and_le_right
  unfold coerceBank
  split <;> omega

section
variable {s : State} (n : Nat) (v : Byte)

/-- A write to 0x0000..0x7FFF leaves the controller's registers in range (25_cartridge R327, R331, R340, R352). -/
theorem mbcWrite_only : ∃ m, mbcWrite s n v = { s with mapper := m } ∧
    (MapperRegsInv s.cart.kind s.mapper → MapperRegsInv s.cart.kind m) := by
  cases hk : s.cart.kind with
  | none => exact ⟨_, mbcWrite_none n v hk, id⟩
  | mbc1 =>
    refine ⟨_, mbcWrite_mbc1 n v hk, fun h => ?_⟩
    obtain ⟨hlo, hhi, hram⟩ := h.banks
    obtain ⟨h1, h31⟩ := coerceBank_range (v := v) (mask := 0x1F)
    unfold mbc1Write
    split
    · exact { h with }
    split
    · exact { h with banks := ⟨h1, h31, hram⟩ }
    split
    · have h3 : (v &&& 0x03).toNat = v.toNat % 4 := toNat_and_lowBits v 2 (by decide)
      exact { h with banks := ⟨hlo, hhi, by show (v &&& 0x03).toNat ≤ 3; omega⟩ }
    · exact { h with }
  | mbc2 =>
    refine ⟨_, mbcWrite_mbc2 n v hk, fun h => ?_⟩
    obtain ⟨hlo, hhi, hram⟩ := h.banks
    obtain ⟨h1, h15⟩ := coerceBank_range (v := v) (mask := 0x0F)
    unfold mbc2Write
    split
    · split
      · exact { h with banks := ⟨h1, h15, hram⟩ }
      · exact { h with }
    · exact h
  | mbc3 =>
    by_cases hn : n < 0x6000
    · refine ⟨_, mbcWrite_mbc3 v hk (Nat.le_of_lt_succ hn), fun h => ?_⟩
      obtain ⟨hlo, hhi, hram⟩ := h.banks
      obtain ⟨h1, h127⟩ := coerceBank_range (v := v) (mask := 0x7F)
      unfold mbc3Write
      split
      · exact { h with }
      split
      · exact { h with banks := ⟨h1, h127, hram⟩ }
      · exact { h with banks := ⟨hlo, hhi, Nat.le_of_lt_succ v.isLt⟩ }
    · have hlatch : mbcWrite s n v = mbc3Latch s v := by simp only [mbcWrite, hk, if_neg hn]
      rw [hlatch]
      unfold mbc3Latch
      dsimp only
      split
      · exact ⟨_, rfl, fun h => { h with rtc := ticks_wf h.rtc _, rtcLatched := ticks_wf h.rtc _ }⟩
      · exact ⟨_, rfl, fun h => { h with }⟩
  | mbc5 =>
    refine ⟨_, mbcWrite_mbc5 n v hk, fun h => ?_⟩
    obtain ⟨hrom, hram⟩ := h.banks
    have hv := v.isLt
    unfold mbc5Write
    split
    · exact { h with }
    split
    · exact { h with banks := ⟨by show s.mapper.romBank / 256 * 256 + v.toNat ≤ 511; omega, hram⟩ }
    split
    · exact { h with banks := ⟨by show v.toNat % 2 * 256 + s.mapper.romBank % 256 ≤ 511; omega, hram⟩ }
    split
    · refine { h with banks := ⟨hrom, ?_⟩ }
      show (v &&& _).toNat ≤ 15
      rw [BitVec.toNat_and]
      refine Nat.and_le_right.trans ?_
      split <;> decide
    · exact h

/-- A write of an RTC register leaves the registers within their masks (25_cartridge R343). -/
theorem rtcWrite_only (j : Nat) : ∃ m, rtcWrite s j v = { s with mapper := m } ∧
    (MapperRegsInv s.cart.kind s.mapper → MapperRegsInv s.cart.kind m) :=
  ⟨_, rfl, fun h => { banks := h.banks, rtc := set_wf (ticks_wf h.rtc _) j v, rtcLatched := h.rtcLatched }⟩

end

/-! ## HDMA (20_memory R241, R242) -/

/-- The part of `MapperInv` about HDMA. -/
structure HdmaInv (d : Hdma) : Prop where
  blocks : d.remaining ≤ 128
  active : d.active = true → d.remaining ≠ 0
  source : d.src &&& 0x000F = 0
  target : d.dst &&& 0x600F = 0

theorem and_f_eq_zero_iff (x : Word) : x &&& 0x000F = 0 ↔ x.toNat % 16 = 0 := by
  have hmask : (x &&& 0x000F).toNat = x.toNat % 16 := toNat_and_lowMask (k := 4) x (by decide)
  rw [← hmask]
  exact ⟨fun h => by rw [h]; rfl, fun h => BitVec.eq_of_toNat_eq h⟩

theorem source_next {x : Word} (h : x &&& 0x000F = 0) : (x + 16) &&& 0x000F = 0 := by
  rw [and_f_eq_zero_iff] at h ⊢
  bv_omega

theorem target_aligned (x : Word) : (0x8000 ||| (x &&& 0x1FF0)) &&& 0x600F = 0 := by
  rw [BitVec.and_or_distrib_right, BitVec.and_assoc]
  exact (BitVec.zero_or).trans BitVec.and_zero

theorem hdmaSource_aligned (s : State) : hdmaSource s &&& 0x000F = 0 := by
  show joinWord (s.ioByte 0x51) (s.ioByte 0x52 &&& 0xF0) &&& joinWord 0x00 0x0F = 0
  rw [joinWord, joinWord, BitVec.and_append, BitVec.and_assoc]
  exact congrArg₂ _ BitVec.and_zero BitVec.and_zero

theorem hdmaDest_aligned (s : State) : hdmaDest s &&& 0x600F = 0 := by
  have hhalves : joinWord (s.ioByte 0x53 &&& 0x1F) (s.ioByte 0x54 &&& 0xF0) &&& 0x600F = 0 := by
    show joinWord (s.ioByte 0x53 &&& 0x1F) (s.ioByte 0x54 &&& 0xF0) &&& joinWord 0x60 0x0F = 0
    rw [joinWord, joinWord, BitVec.and_append, BitVec.and_assoc, BitVec.and_assoc]
    exact congrArg₂ _ BitVec.and_zero BitVec.and_zero
  rw [hdmaDest, BitVec.and_or_distrib_right, hhalves]
  rfl

/-- A block moves both addresses on by 16 and counts itself (R242). -/
theorem hdmaBlock_hdma (s : State) : (hdmaBlock s).hdma =
    { src := s.hdma.src + 16
      dst := 0x8000 ||| ((s.hdma.dst + 16) &&& 0x1FF0)
      remaining := if s.hdma.active then s.hdma.remaining - 1 else s.hdma.remaining
      active := s.hdma.active && decide ((if s.hdma.active then s.hdma.remaining - 1 else s.hdma.remaining) ≠ 0) } := by
  have hcopy : (hdmaCopy 16 s).hdma = s.hdma := by rw [hdmaCopy_only]
  simp only [hdmaBlock, hcopy]

theorem hdmaBlock_inv {s : State} (h : HdmaInv s.hdma) : HdmaInv (hdmaBlock s).hdma := by
  rw [hdmaBlock_hdma]
  constructor
  case blocks =>
    have := h.blocks
    dsimp only
    split <;> omega
  case active =>
    intro ha
    simp only [Bool.and_eq_true, decide_eq_true_eq] at ha
    exact ha.2
  case source => exact source_next h.source
  case target => exact target_aligned _

/-! ## What a bus write does to the devices -/

/-- An I/O address whose byte no device rule of an invariant reads: not TAC, not a sound register, not LCDC. -/
def plainIo (k : Nat) : Prop := k ≠ 0x07 ∧ ¬(0x10 ≤ k ∧ k ≤ 0x26) ∧ k ≠ 0x40

/-- One touch of a bus write. -/
inductive BusTouch (s : State) : State → Prop where
  | io (k : Nat) (v : Byte) (hk : plainIo k) : BusTouch s (s.setIo k v)
  | storage {t : State} (h : t = { s with vram := t.vram, cram := t.cram, wram := t.wram, oam := t.oam, wave := t.wave,
                                          hram := t.hram, bgPal := t.bgPal, objPal := t.objPal, ie := t.ie }) :
      BusTouch s t
  | mapper (m : Mapper) (h : MapperRegsInv s.cart.kind s.mapper → MapperRegsInv s.cart.kind m) :
      BusTouch s { s with mapper := m }
  | hdma (d : Hdma) (h : HdmaInv s.hdma → HdmaInv d) : BusTouch s { s with hdma := d }
  | sound (k : Nat) (v : Byte) (hlo : 0x10 ≤ k) (hhi : k ≤ 0x25) : BusTouch s (writeSound s k v)
  | power (v : Byte) : BusTouch s (writeNr52 s v)
  | lcdc (v : Byte) : BusTouch s (writeLcdc s v)
  | tima (v : Byte) : BusTouch s (writeTima s v)
  | tac (v : Byte) : BusTouch s (writeTac s v)
  | div : BusTouch s (resetDiv s)
  | serial (d : Option Nat) : BusTouch s { s with serialDeadline := d }

/-- A sequence of touches. -/
abbrev BusTouches : State → State → Prop := Relation.ReflTransGen BusTouch

/-- What every touch keeps, every sequence of touches keeps. -/
theorem BusTouches.keep {P : State → Prop} (hP : ∀ {s t}, BusTouch s t → P s → P t) {s t : State}
    (h : BusTouches s t) (hs : P s) : P t := by
  induction h with
  | refl => exact hs
  | tail _ touch ih => exact hP touch ih

section
variable (s : State) (v : Byte)

theorem cartRamWrite_touches (off : Nat) : BusTouches s (cartRamWrite s off v) := by
  unfold cartRamWrite
  split
  · exact .refl
  · exact .single (.storage rfl)
  · exact .single (.storage rfl)
  · next j _ =>
    obtain ⟨m, hm, hregs⟩ := rtcWrite_only (s := s) v j
    exact hm ▸ .single (.mapper m hregs)

theorem mbcWrite_touches (n : Nat) : BusTouches s (mbcWrite s n v) := by
  obtain ⟨m, hm, hregs⟩ := mbcWrite_only (s := s) n v
  exact hm ▸ .single (.mapper m hregs)

theorem requestIrqIf_touches (b : Bool) (k : Nat) : BusTouches s (requestIrqIf s b k) := by
  unfold requestIrqIf
  split
  · exact .single (.io 0x0F _ (by unfold plainIo; omega))
  · exact .refl

theorem oamDma_only (n : Nat) : oamDma v n s = { s with oam := (oamDma v n s).oam } := by
  induction n with
  | zero => rfl
  | succ n ih =>
    unfold oamDma
    dsimp only
    rw [ih]

theorem oamDma_touches (n : Nat) : BusTouches s (oamDma v n s) := by
  rw [oamDma_only]
  exact .single (.storage rfl)

theorem hdmaBlock_touches : BusTouches s (hdmaBlock s) := by
  have hinv : HdmaInv s.hdma → HdmaInv (hdmaBlock s).hdma := hdmaBlock_inv
  rw [hdmaBlock_only]
  generalize (hdmaBlock s).hdma = d, (hdmaBlock s).vram = m at hinv ⊢
  exact (Relation.ReflTransGen.single (.hdma _ hinv)).tail
    (.storage rfl)

theorem hdmaBlocks_touches (n : Nat) : BusTouches s (hdmaBlocks n s) := by
  induction n generalizing s with
  | zero => exact .refl
  | succ n ih => exact (hdmaBlock_touches s).trans (ih _)

/-- Blocks of a transfer that is not active do not make it active. -/
theorem hdmaBlocks_inactive (n : Nat) {s : State} (h : s.hdma.active = false) : (hdmaBlocks n s).hdma.active = false := by
  induction n generalizing s with
  | zero => exact h
  | succ n ih =>
    refine ih ?_
    rw [hdmaBlock_hdma]
    simp [h]

theorem writeHdma5_touches : BusTouches s (writeHdma5 s v) := by
  have hcount : field v 6 0 + 1 ≤ 128 := Nat.succ_le_of_lt (Nat.mod_lt _ (by decide))
  unfold writeHdma5
  dsimp only
  split
  · exact .single (.hdma _ fun h => { h with active := fun ha => by cases ha })
  · next hstop =>
    split
    · next hv =>
      have hoff : s.hdma.active = false := by simpa [hv] using hstop
      have hoff' := hdmaBlocks_inactive (field v 6 0 + 1) hoff
      exact (hdmaBlocks_touches s _).tail
        (.hdma _ fun h => { h with blocks := Nat.zero_le _, active := fun ha => absurd ha (by simp [hoff']) })
    · exact .single (.hdma _ fun h => { h with blocks := hcount, active := fun _ => Nat.succ_ne_zero _ })

theorem writeHdmaSrc_touches {k : Nat} (hk : plainIo k) : BusTouches s (writeHdmaSrc s k v) := by
  unfold writeHdmaSrc
  dsimp only
  split
  · exact .single (.io k v hk)
  · exact (Relation.ReflTransGen.single (.io k v hk)).tail (.hdma _ fun h => { h with source := hdmaSource_aligned _ })

theorem writeHdmaDst_touches {k : Nat} (hk : plainIo k) : BusTouches s (writeHdmaDst s k v) :=
  (Relation.ReflTransGen.single (.io k v hk)).tail (.hdma _ fun h => { h with target := hdmaDest_aligned _ })

theorem plainIo_of_not {k : Nat} (h7 : k ≠ 0x07) (hsound : k < 0x10 ∨ 0x26 < k) (h40 : k ≠ 0x40) : plainIo k := by
  unfold plainIo
  omega

theorem ioWriteReg_touches (k : Nat) : BusTouches s (ioWriteReg s k v) := by
  unfold ioWriteReg
  split
  · exact .single (.io 0x00 _ (by simp [plainIo]))
  · exact (Relation.ReflTransGen.single (.io 0x02 v (by simp [plainIo]))).tail (.serial _)
  · exact .single .div
  · exact .single (.tima v)
  · exact .single (.tac v)
  · exact .single (.power v)
  · exact .single (.lcdc v)
  · exact .single (.io 0x41 _ (by simp [plainIo]))
  · exact .refl
  · exact (Relation.ReflTransGen.single (.io 0x45 v (by simp [plainIo]))).trans (requestIrqIf_touches ..)
  · exact (Relation.ReflTransGen.single (.io 0x46 v (by simp [plainIo]))).trans (oamDma_touches ..)
  · exact writeHdmaSrc_touches s v (by simp [plainIo])
  · exact writeHdmaSrc_touches s v (by simp [plainIo])
  · exact writeHdmaDst_touches s v (by simp [plainIo])
  · exact writeHdmaDst_touches s v (by simp [plainIo])
  · exact writeHdma5_touches s v
  · exact (Relation.ReflTransGen.single (.io 0x68 _ (by simp [plainIo]))).tail
      (.storage rfl)
  · exact (Relation.ReflTransGen.single (.io 0x6A _ (by simp [plainIo]))).tail
      (.storage rfl)
  · split
    · next h => exact .single (.sound k v h.1 h.2)
    split
    · exact .single (.storage rfl)
    · have h26 : k ≠ 0x26 := ‹_›
      exact .single (.io k v (plainIo_of_not ‹_› (by omega) ‹_›))

/-- No unused address but the two between the sound registers has a device behind it. -/
theorem plainIo_of_unused {cgb : Bool} {k : Nat} (hunused : ioUnused cgb k = true) (h : ¬(0x10 ≤ k ∧ k ≤ 0x25)) :
    plainIo k := by
  simp only [ioUnused, unusedIo, cgbOnlyIo, Bool.or_eq_true, Bool.and_eq_true, beq_iff_eq, decide_eq_true_eq] at hunused
  exact plainIo_of_not (by omega) (by omega) (by omega)

theorem ioWrite_touches (k : Nat) : BusTouches s (ioWrite s k v) := by
  unfold ioWrite
  split
  · next hunused =>
    split
    · exact .refl
    split
    · next h => exact .single (.sound k v h.1 h.2)
    · exact .single (.io k v (plainIo_of_unused hunused ‹_›))
  · exact ioWriteReg_touches ..

/-- Every bus write is a sequence of touches. -/
theorem memWrite_touches (a : Word) : BusTouches s (memWrite s a v) := by
  unfold memWrite writePlace
  split
  · exact mbcWrite_touches ..
  · exact .single (.storage rfl)
  · exact cartRamWrite_touches ..
  · exact .single (.storage rfl)
  · exact .single (.storage rfl)
  · exact ioWrite_touches ..
  · exact .single (.storage rfl)
  · exact .single (.storage rfl)

end

/-! ## The scheduler (60_exceptions R1102) -/

/-- The deadline of the event of a kind. -/
def deadlineOf (s : State) : EventKind → Option Nat
  | .ppu => ppuDeadline s
  | .timer => s.timer.deadline
  | .serial => s.serialDeadline

section
variable {x y : Option (Nat × EventKind)} {p : Nat × EventKind}

theorem earlier_mem (h : earlier x y = some p) : x = some p ∨ y = some p := by
  cases x with
  | none => exact .inr h
  | some a =>
    cases y with
    | none => exact .inl h
    | some b =>
      simp only [earlier] at h
      split at h
      · exact .inr h
      · exact .inl h

/-- The earlier of two events is not after either. -/
theorem earlier_le (h : x = some p ∨ y = some p) : ∃ q, earlier x y = some q ∧ q.1 ≤ p.1 := by
  cases x with
  | none => exact ⟨p, h.resolve_left (by simp), le_rfl⟩
  | some a =>
    cases y with
    | none => exact ⟨p, h.resolve_right (by simp), le_rfl⟩
    | some b =>
      simp only [Option.some.injEq] at h
      simp only [earlier]
      split
      · exact ⟨b, rfl, by obtain rfl | rfl := h <;> omega⟩
      · exact ⟨a, rfl, by obtain rfl | rfl := h <;> omega⟩

end

section
variable {s : State} {d : Nat} {k : EventKind}

/-- The event next scheduled is at the deadline of its kind. -/
theorem deadlineOf_nextScheduled (h : nextScheduled s = some (d, k)) : deadlineOf s k = some d := by
  have hkind {o : Option Nat} {j : EventKind} (ho : o.map (fun e => (e, j)) = some (d, k)) : o = some d ∧ j = k := by
    obtain ⟨e, he, hek⟩ := Option.map_eq_some_iff.mp ho
    obtain ⟨rfl, rfl⟩ := Prod.mk.inj hek
    exact ⟨he, rfl⟩
  obtain h | h := earlier_mem h
  · obtain h | h := earlier_mem h
    · obtain ⟨hd, rfl⟩ := hkind h
      exact hd
    · obtain ⟨hd, rfl⟩ := hkind h
      exact hd
  · obtain ⟨hd, rfl⟩ := hkind h
    exact hd

/-- With a deadline set, some event is next scheduled, and no later. -/
theorem nextScheduled_le (h : deadlineOf s k = some d) : ∃ e j, nextScheduled s = some (e, j) ∧ e ≤ d := by
  have hmap {o : Option Nat} (ho : o = some d) : o.map (fun e => (e, k)) = some (d, k) := by rw [ho]; rfl
  have hfinal {q : Nat × EventKind} (hq : earlier (earlier ((ppuDeadline s).map fun e => (e, .ppu))
      (s.timer.deadline.map fun e => (e, .timer))) (s.serialDeadline.map fun e => (e, .serial)) = some q ∧ q.1 ≤ d) :
      ∃ e j, nextScheduled s = some (e, j) ∧ e ≤ d := ⟨q.1, q.2, hq⟩
  cases k with
  | ppu =>
    obtain ⟨r, hr, hrd⟩ := earlier_le (y := s.timer.deadline.map fun e => (e, .timer)) (.inl (hmap h))
    obtain ⟨q, hq, hqr⟩ := earlier_le (y := s.serialDeadline.map fun e => (e, .serial)) (.inl hr)
    exact hfinal ⟨hq, hqr.trans hrd⟩
  | timer =>
    obtain ⟨r, hr, hrd⟩ := earlier_le (x := (ppuDeadline s).map fun e => (e, .ppu)) (.inr (hmap h))
    obtain ⟨q, hq, hqr⟩ := earlier_le (y := s.serialDeadline.map fun e => (e, .serial)) (.inl hr)
    exact hfinal ⟨hq, hqr.trans hrd⟩
  | serial =>
    obtain ⟨q, hq, hqr⟩ := earlier_le (.inr (hmap h))
    exact hfinal ⟨hq, hqr⟩

/-- No event is due exactly if no deadline has been reached. -/
theorem noDeadlineDue_iff : NoDeadlineDue s ↔ ∀ k d, deadlineOf s k = some d → s.counter < d := by
  constructor
  · intro h k d hk
    obtain ⟨e, j, hnext, hle⟩ := nextScheduled_le hk
    exact (h e j hnext).trans_le hle
  · exact fun h d k hk => h k d (deadlineOf_nextScheduled hk)

end

/-! ## What an event does to the devices -/

/-- One touch of an event. -/
inductive EventTouch (s : State) : State → Prop where
  | bus {t : State} (h : BusTouch s t) : EventTouch s t
  | ppu (p : Ppu) : EventTouch s { s with ppu := p }
  | host (h : HostSide) : EventTouch s { s with host := h }
  | frameTick : EventTouch s (apuFrameTick s)
  | timer (d : Nat) (h : s.timer.deadline = some d) : EventTouch s (timerEvent s d)

/-- A sequence of touches of events. -/
abbrev EventTouches : State → State → Prop := Relation.ReflTransGen EventTouch

theorem BusTouches.events {s t : State} (h : BusTouches s t) : EventTouches s t :=
  Relation.ReflTransGen.mono (fun _ _ => EventTouch.bus) _ _ h

section
variable (s : State) (d : Nat)

theorem requestIrq_touches (k : Nat) : EventTouches s (requestIrq s k) :=
  .single (.bus (.io 0x0F _ (by simp [plainIo])))

theorem enterMode_touches (m : PpuMode) : EventTouches s (enterMode s m d) := .single (.ppu _)

theorem setLy_touches (v : Byte) : EventTouches s (setLy s v) :=
  (Relation.ReflTransGen.single (.ppu { s.ppu with ly := v })).trans (requestIrqIf_touches ..).events

theorem publishFrame_touches : EventTouches s (publishFrame s) :=
  (Relation.ReflTransGen.single (.ppu { s.ppu with publishedFrame := some s.ppu.backBuffer })).tail (.host _)

theorem enterSearch_touches : EventTouches s (enterSearch s d) :=
  (enterMode_touches ..).trans (requestIrqIf_touches ..).events

theorem enterVblank_touches : EventTouches s (enterVblank s d) := by
  unfold enterVblank
  dsimp only
  exact (((((enterMode_touches ..).trans (requestIrq_touches ..)).trans (requestIrqIf_touches ..).events).trans
    (publishFrame_touches _)).tail .frameTick).tail (.ppu _)

theorem modeEvent_touches : EventTouches s (modeEvent s d) := by
  unfold modeEvent
  split
  · exact (enterMode_touches ..).tail (.ppu _)
  · have h := (enterMode_touches s (d + 204 * speedFactor s) .hblank).trans (requestIrqIf_touches _
      (bit ((enterMode s .hblank (d + 204 * speedFactor s)).ioByte 0x41) 3) 1).events
    unfold modeEvent3
    dsimp only
    split
    · exact h.trans (hdmaBlock_touches _).events
    · exact h
  · unfold modeEvent0
    dsimp only
    split
    · exact (setLy_touches ..).trans (enterVblank_touches ..)
    · exact (setLy_touches ..).trans (enterSearch_touches ..)
  · unfold modeEvent1
    split
    · exact (setLy_touches ..).trans (enterSearch_touches ..)
    · exact (setLy_touches ..).trans (enterMode_touches ..)

theorem offFrameEvent_touches : EventTouches s (offFrameEvent s d) := by
  unfold offFrameEvent
  dsimp only
  exact ((Relation.ReflTransGen.single (.ppu _)).trans (publishFrame_touches _)).tail .frameTick

theorem serialEvent_touches : BusTouches s (serialEvent s) :=
  ((((Relation.ReflTransGen.single (.io 0x01 _ (by simp [plainIo]))).tail (.io 0x02 _ (by simp [plainIo]))).tail
    (.io 0x0F _ (by simp [plainIo]))).tail (.serial none))

/-- A scheduled event is a sequence of touches. -/
theorem runEvent_touches {s : State} {d : Nat} {k : EventKind} (h : nextScheduled s = some (d, k)) :
    EventTouches s (runEvent s k d) := by
  cases k with
  | ppu =>
    unfold runEvent
    dsimp only
    split
    · exact modeEvent_touches s d
    · exact offFrameEvent_touches s d
  | timer => exact .single (.timer d (deadlineOf_nextScheduled h))
  | serial => exact (serialEvent_touches s).events

end

/-! ## What a step does to the devices -/

/-- One touch of a step: of a device, or of the part of the state that no device rule reads. -/
inductive StepTouch (s : State) : State → Prop where
  | event {t : State} (h : EventTouch s t) : StepTouch s t
  | core {t : State} (h : t = { s with
        regs := t.regs, ime := t.ime, imeArmed := t.imeArmed, halted := t.halted, stopped := t.stopped
        haltRepeat := t.haltRepeat, doubleSpeed := t.doubleSpeed, running := t.running, counter := t.counter
        fault := t.fault }) : StepTouch s t

/-- A sequence of touches of a step. -/
abbrev StepTouches : State → State → Prop := Relation.ReflTransGen StepTouch

/-- What every touch keeps, a sequence of touches keeps. -/
theorem StepTouches.keep {P : State → Prop} (hP : ∀ {s t}, StepTouch s t → P s → P t) {s t : State}
    (h : StepTouches s t) (hs : P s) : P t := by
  induction h with
  | refl => exact hs
  | tail _ touch ih => exact hP touch ih

theorem EventTouches.steps {s t : State} (h : EventTouches s t) : StepTouches s t :=
  Relation.ReflTransGen.mono (fun _ _ => StepTouch.event) _ _ h

section
variable {s t : State}

theorem Move.touches (h : Move s t) : StepTouches s t := by
  cases h with
  | regs g => exact .single (.core rfl)
  | write a v => exact (memWrite_touches s v a).events.steps
  | cycles n => exact .single (.core rfl)
  | repeatByte b => exact .single (.core rfl)
  | interrupts i a => exact .single (.core rfl)
  | halt => exact .single (.core rfl)
  | stop => exact .single (.core rfl)
  | speed =>
    have h : BusTouches s (resetDiv (s.setIo 0x4D (setBit (s.ioByte 0x4D) 0 false))) :=
      (Relation.ReflTransGen.single (.io 0x4D _ (by simp [plainIo]))).tail .div
    exact h.events.steps.tail
      (.core rfl)
  | illegal op => exact .single (.core rfl)

theorem consumeInput_touches (s : State) : StepTouches s (consumeInput s) := by
  unfold consumeInput
  split
  · have h : EventTouches s { requestIrq s 4 with host := { s.host with inputChanged := false } } :=
      (requestIrq_touches s 4).tail (.host _)
    exact h.steps.tail (.core rfl)
  · exact .refl

theorem Act.touches (h : Act s t) : StepTouches s t := by
  cases h with
  | move h => exact Move.touches h
  | input => exact consumeInput_touches s
  | wake => exact .single (.core rfl)
  | acknowledge k =>
    have h : BusTouch s (s.setIo 0x0F (setBit (s.ioByte 0x0F) k false)) := .io 0x0F _ (by simp [plainIo])
    exact (Relation.ReflTransGen.single (.event (.bus h))).tail
      (.core rfl)
  | event k d h => exact (runEvent_touches h).steps
  | enable => exact .single (.core rfl)
  | passTime n => exact .single (.core rfl)

theorem Acts.touches (h : Acts s t) : StepTouches s t := by
  induction h with
  | refl => exact .refl
  | tail _ act ih => exact ih.trans (Act.touches act)

/-- Every step is a sequence of touches. -/
theorem step_touches (h : step s = .next t) : StepTouches s t := Acts.touches (step_acts h)

end

end Sys2Proof.Proofs
end

section
/-! SUPPORT and proofs of O8, O9, O13 and O16. The invariants every touch keeps whatever the order of events:
the byte arrays, the CPU's flags, what no step changes, and the controller and HDMA. -/

namespace Sys2Proof.Proofs

open Sys2Proof.Machine

/-! ## What the device writes leave alone -/

section
variable (s : State) (k : Nat) (v : Byte)

theorem soundEffect_only : soundEffect s k v = { s with apu := (soundEffect s k v).apu } := by
  unfold soundEffect trigger1 trigger2 trigger3 trigger4
  dsimp only
  repeat' split
  all_goals rfl

theorem writeSound_only : writeSound s k v = { s with io := (writeSound s k v).io, apu := (writeSound s k v).apu } := by
  unfold writeSound
  split
  · rw [soundEffect_only]
    rfl
  · rfl

theorem writeSound_ioByte_other {j : Nat} (h : j ≠ k) : (writeSound s k v).ioByte j = s.ioByte j := by
  unfold writeSound
  split
  · rw [soundEffect_only]
    exact ioByte_setIo_other s v h
  · rfl

/-- NR52 either powers the APU off or only stores its byte (55_apu R1014). -/
theorem writeNr52_cases : (apuOn s = true ∧ bit v 7 = false) ∨ (apuOn s = true → bit v 7 = true) := by
  cases apuOn s <;> cases bit v 7 <;> simp

theorem writeNr52_only : ∃ io apu, writeNr52 s v = { s with io := io, apu := apu } := by
  obtain ⟨hon, hv⟩ | h := writeNr52_cases s v
  · exact ⟨_, _, writeNr52_powerOff hon hv⟩
  · exact ⟨_, s.apu, writeNr52_stores h⟩

theorem writeNr52_ioByte_other {j : Nat} (h : j < 0x10 ∨ 0x26 < j) : (writeNr52 s v).ioByte j = s.ioByte j := by
  have hstored : (s.setIo 0x26 (setBit (s.ioByte 0x26) 7 (bit v 7))).ioByte j = s.ioByte j :=
    ioByte_setIo_other s _ (by omega)
  obtain ⟨hon, hv⟩ | hkept := writeNr52_cases s v
  · rw [writeNr52_powerOff hon hv, State.ioByte, clearSoundRegs_read, if_neg (by omega)]
    exact hstored
  · rw [writeNr52_stores hkept]
    exact hstored

theorem writeLcdc_only : writeLcdc s v = { s with io := s.io.write 0x40 v, ppu := (writeLcdc s v).ppu } := by
  unfold writeLcdc
  dsimp only
  repeat' split
  all_goals rfl

theorem writeLcdc_ioByte_other {j : Nat} (h : j ≠ 0x40) : (writeLcdc s v).ioByte j = s.ioByte j := by
  rw [writeLcdc_only]
  exact s.io.read_write_other v h

theorem writeTima_only : writeTima s v = { s with timer := (writeTima s v).timer } := by
  unfold writeTima
  dsimp only
  split <;> rfl

theorem apuFrameTick_io : (apuFrameTick s).io = s.io ∨ ∃ f g, (apuFrameTick s).io =
    (s.io.write 0x13 f).write 0x14 (mergeBits (s.ioByte 0x14) g 0x07) := by
  have hsweep (u : State) : (sweepTick u).io = u.io ∨ ∃ f g, (sweepTick u).io =
      (u.io.write 0x13 f).write 0x14 (mergeBits (u.ioByte 0x14) g 0x07) := by
    unfold sweepTick sweepUpdate
    dsimp only
    repeat' split
    case isTrue.isTrue.isFalse.isTrue => exact .inr ⟨_, _, rfl⟩
    all_goals exact .inl rfl
  unfold apuFrameTick
  split
  · have hcounters := (countersTicked s).io
    generalize envelopeTicks (lengthTicks (deliverSamples s)) = u at hcounters
    have h := hsweep u
    rwa [State.ioByte, hcounters] at h
  · exact .inl rfl

theorem apuFrameTick_ioByte_other {j : Nat} (h13 : j ≠ 0x13) (h14 : j ≠ 0x14) :
    (apuFrameTick s).ioByte j = s.ioByte j := by
  obtain h | ⟨f, g, h⟩ := apuFrameTick_io s
  · rw [State.ioByte, h, State.ioByte]
  · rw [State.ioByte, h, Memory.read_write_other _ _ h14, Memory.read_write_other _ _ h13, State.ioByte]

end

/-! ## The byte arrays -/

section
variable {s t : State}

theorem MemoryInv.apuFrameTick (h : MemoryInv s) : MemoryInv (apuFrameTick s) := by
  have hio : (Machine.apuFrameTick s).io.wf = true := by
    obtain hio | ⟨f, g, hio⟩ := apuFrameTick_io s
    · exact hio ▸ h.io
    · exact hio ▸ Memory.write_wf _ _ (Memory.write_wf _ _ h.io)
  rw [apuFrameTick_only]
  exact { h with io := hio }

theorem MemoryInv.modeEvent (h : MemoryInv s) (d : Nat) : MemoryInv (modeEvent s d) := by
  have hsetLy (v : Byte) : MemoryInv (setLy s v) := (h.setPpu _).requestIrqIf ..
  have hsearch {u : State} (hu : MemoryInv u) : MemoryInv (enterSearch u d) := (hu.setPpu _).requestIrqIf ..
  unfold Machine.modeEvent
  split
  · exact (h.setPpu _).setPpu _
  · have hirq := (h.setPpu { s.ppu with mode := .hblank, modeDeadline := some (d + 204 * speedFactor s) }).requestIrqIf
      (bit (s.ioByte 0x41) 3) 1
    unfold modeEvent3
    dsimp only
    split
    · exact hirq.hdmaBlock
    · exact hirq
  · unfold modeEvent0
    dsimp only
    split
    · have hframe {u : State} (hu : MemoryInv u) : MemoryInv (publishFrame u) := { hu with }
      exact (MemoryInv.apuFrameTick (hframe ((((hsetLy _).setPpu _).requestIrq 0).requestIrqIf ..))).setPpu _
    · exact hsearch (hsetLy _)
  · unfold modeEvent1
    split
    · exact hsearch (hsetLy _)
    · exact (hsetLy _).setPpu _

theorem MemoryInv.runEvent (h : MemoryInv s) (k : EventKind) (d : Nat) : MemoryInv (runEvent s k d) := by
  unfold Machine.runEvent
  split
  · split
    · exact MemoryInv.modeEvent h d
    · refine MemoryInv.apuFrameTick (s := publishFrame _) ?_
      exact { h with }
  · exact { h.requestIrq 2 with }
  · exact { ((h.setIo 0x01 0xFF).setIo 0x02 (setBit (s.ioByte 0x02) 7 false)).requestIrq 3 with }

theorem MemoryInv.act (hact : Act s t) (h : MemoryInv s) : MemoryInv t := by
  cases hact with
  | move hmove =>
    cases hmove with
    | write a v => exact h.memWrite a v
    | speed => exact { h.setIo 0x4D (setBit (s.ioByte 0x4D) 0 false) with }
    | _ => exact { h with }
  | input =>
    unfold consumeInput
    split
    · exact { h.requestIrq 4 with }
    · exact h
  | acknowledge k => exact { h.setIo 0x0F (setBit (s.ioByte 0x0F) k false) with }
  | event k d => exact MemoryInv.runEvent h k d
  | wake | enable | passTime => exact { h with }

end

/-- Settles O8: every array is only ever written cell by cell. -/
theorem stepKeepsMemoryCanonical : Obligations.StepKeepsMemoryCanonical := by
  unfold Obligations.StepKeepsMemoryCanonical
  exact fun s t hs h => (step_acts h).keep MemoryInv.act hs

/-! ## The CPU (10_state R55, 46_system R805, 60_exceptions R1130) -/

section
variable {s t : State}

theorem CpuInv.congr (h : CpuInv s) (hf : t.regs.f = s.regs.f) (hfault : t.fault = s.fault) (hrun : t.running = s.running)
    (hime : t.ime = s.ime) (harmed : t.imeArmed = s.imeArmed) : CpuInv t where
  flagsOnly := by rw [hf, h.flagsOnly]
  faultStops := by rw [hfault, hrun]; exact h.faultStops
  armedOrEnabled := by rw [hime, harmed]; exact h.armedOrEnabled

theorem CpuInv.move (hmove : Move s t) (h : CpuInv s) : CpuInv t := by
  cases hmove with
  | regs g hg =>
    have hflags : g.f &&& 0x0F = 0 := hg.elim id fun hkept => by rw [hkept, h.flagsOnly]
    exact { h with flagsOnly := hflags }
  | write a v =>
    have hk := memWrite_keeps s a v
    exact CpuInv.congr h (by rw [hk.regs]) hk.fault hk.running hk.ime hk.imeArmed
  | interrupts i a hia => exact { h with armedOrEnabled := hia }
  | illegal op => exact { h with faultStops := fun _ => rfl }
  | cycles | repeatByte | halt | stop | speed => exact { h with }

theorem CpuInv.act (hact : Act s t) (h : CpuInv s) : CpuInv t := by
  cases hact with
  | move hmove => exact CpuInv.move hmove h
  | input =>
    unfold consumeInput
    split
    · exact { h with }
    · exact h
  | acknowledge k => exact { h with armedOrEnabled := by simp }
  | event k d =>
    have hk := runEvent_eventKeeps s k d
    exact CpuInv.congr h (by rw [hk.regs]) hk.fault hk.running hk.ime hk.imeArmed
  | enable => exact { h with armedOrEnabled := by simp }
  | wake | passTime => exact { h with }

end

/-- Settles O9: every act keeps the three facts. -/
theorem stepKeepsCpuState : Obligations.StepKeepsCpuState := by
  unfold Obligations.StepKeepsCpuState
  exact fun s t hs h => (step_acts h).keep CpuInv.act hs

/-! ## What no step changes -/

/-- What `WhatNoStepChanges` says of a step, for any two states. -/
structure FixedPart (s t : State) : Prop where
  rom : t.rom = s.rom
  cart : t.cart = s.cart
  cgbMode : t.cgbMode = s.cgbMode
  gbcHardware : t.gbcHardware = s.gbcHardware
  params : t.params = s.params
  counter : s.counter ≤ t.counter

section
variable {s t u : State}

theorem FixedPart.refl (s : State) : FixedPart s s := ⟨rfl, rfl, rfl, rfl, rfl, le_rfl⟩

theorem FixedPart.trans (h : FixedPart s t) (k : FixedPart t u) : FixedPart s u where
  rom := k.rom.trans h.rom
  cart := k.cart.trans h.cart
  cgbMode := k.cgbMode.trans h.cgbMode
  gbcHardware := k.gbcHardware.trans h.gbcHardware
  params := k.params.trans h.params
  counter := h.counter.trans k.counter

theorem fixedPart_act (hact : Act s t) : FixedPart s t := by
  cases hact with
  | move hmove =>
    cases hmove with
    | write a v =>
      have hk := memWrite_keeps s a v
      exact ⟨hk.rom, hk.cart, hk.cgbMode, hk.gbcHardware, hk.params, hk.counter.ge⟩
    | cycles n => exact ⟨rfl, rfl, rfl, rfl, rfl, Nat.le_add_right ..⟩
    | regs | repeatByte | interrupts | halt | stop | speed | illegal => exact ⟨rfl, rfl, rfl, rfl, rfl, le_rfl⟩
  | input =>
    unfold consumeInput
    split
    · exact ⟨rfl, rfl, rfl, rfl, rfl, le_rfl⟩
    · exact .refl s
  | event k d =>
    have hk := runEvent_eventKeeps s k d
    exact ⟨hk.rom, hk.cart, hk.cgbMode, hk.gbcHardware, hk.params, hk.counter.ge⟩
  | passTime n => exact ⟨rfl, rfl, rfl, rfl, rfl, Nat.le_max_left ..⟩
  | wake | acknowledge | enable => exact ⟨rfl, rfl, rfl, rfl, rfl, le_rfl⟩

theorem fixedPart_step (h : step s = .next t) : FixedPart s t :=
  (step_acts h).keep (P := FixedPart s) (fun hact hs => hs.trans (fixedPart_act hact)) (.refl s)

/-- A step after a fault does nothing (60_exceptions R1101). -/
theorem step_after_fault (hfault : s.fault ≠ none) : step s = .next s := by
  have hsome : s.fault.isSome = true := Option.isSome_iff_ne_none.mpr hfault
  simp [step, hsome]

end

/-- Settles O16: no act touches the fixed part, and a step after a fault is no act at all. -/
theorem whatNoStepChanges : Obligations.WhatNoStepChanges := by
  unfold Obligations.WhatNoStepChanges
  intro s t h
  have hfixed := fixedPart_step h
  refine ⟨hfixed.rom, hfixed.cart, hfixed.cgbMode, hfixed.gbcHardware, hfixed.params, hfixed.counter, fun hfault => ?_⟩
  rw [← Host.Outcome.next.inj ((step_after_fault hfault).symm.trans h)]

/-! ## The controller and HDMA -/

section
variable {s t : State}

theorem mapperInv_iff : MapperInv s ↔ MapperRegsInv s.cart.kind s.mapper ∧ HdmaInv s.hdma :=
  ⟨fun h => ⟨⟨h.banks, h.rtc, h.rtcLatched⟩, ⟨h.hdmaBlocks, h.hdmaActive, h.hdmaSource, h.hdmaTarget⟩⟩,
    fun ⟨hm, hd⟩ => ⟨hm.banks, hm.rtc, hm.rtcLatched, hd.blocks, hd.active, hd.source, hd.target⟩⟩

theorem MapperInv.bus (htouch : BusTouch s t) (h : MapperInv s) : MapperInv t := by
  obtain ⟨hm, hd⟩ := mapperInv_iff.mp h
  cases htouch with
  | storage ht =>
    rw [ht]
    exact { h with }
  | mapper m hkeep => exact mapperInv_iff.mpr ⟨hkeep hm, hd⟩
  | hdma d hkeep => exact mapperInv_iff.mpr ⟨hm, hkeep hd⟩
  | sound k v =>
    rw [writeSound_only]
    exact { h with }
  | power v =>
    obtain ⟨io, apu, ht⟩ := writeNr52_only s v
    rw [ht]
    exact { h with }
  | lcdc v =>
    rw [writeLcdc_only]
    exact { h with }
  | tima v =>
    rw [writeTima_only]
    exact { h with }
  | io | tac | div | serial => exact { h with }

theorem MapperInv.touch (htouch : StepTouch s t) (h : MapperInv s) : MapperInv t := by
  cases htouch with
  | core ht =>
    rw [ht]
    exact { h with }
  | event hevent =>
    cases hevent with
    | bus hbus => exact MapperInv.bus hbus h
    | frameTick =>
      rw [apuFrameTick_only]
      exact { h with }
    | ppu | host | timer => exact { h with }

end

/-- Settles O13: every write keeps the controller and HDMA in range, and nothing else touches them. -/
theorem stepKeepsMapperState : Obligations.StepKeepsMapperState := by
  unfold Obligations.StepKeepsMapperState
  exact fun s t hs h => (step_touches h).keep MapperInv.touch hs

end Sys2Proof.Proofs
end

section
/-! SUPPORT and proofs of O52 and O53. The PPU's mode machine (50_ppu R901 to R904): the one next state of each mode event,
and the 442 events of a frame. -/

namespace Sys2Proof.Proofs

open Sys2Proof.Machine

/-! ## Interrupt requests (60_exceptions R1110) -/

section
variable (s : State) (b : Bool) (k : Nat)

theorem requestIrqIf_eq : requestIrqIf s b k =
    { s with io := if b then s.io.write 0x0F (s.ioByte 0x0F ||| BitVec.ofNat 8 (2 ^ k)) else s.io } := by
  cases b <;> rfl

/-- The request bit is set in IF and no other byte changes. -/
theorem requestIrqIf_flags : (requestIrqIf s b k).ioByte 0x0F =
    s.ioByte 0x0F ||| (if b then BitVec.ofNat 8 (2 ^ k) else 0) := by
  cases b with
  | false => exact BitVec.or_zero.symm
  | true => exact ioByte_setIo_same ..

theorem requestIrqIf_ioByte_other {j : Nat} (h : j ≠ 0x0F) : (requestIrqIf s b k).ioByte j = s.ioByte j := by
  cases b with
  | false => rfl
  | true => exact ioByte_setIo_other _ _ h

end

/-! ## The parts of a mode event -/

/-- The STAT request of a coincidence at line `v` (R904). -/
def coincides (s : State) (v : Byte) : Bool := v == s.ioByte 0x45 && bit (s.ioByte 0x41) 6

section
variable (s : State) (d : Nat)

theorem setLy_eq (v : Byte) (hon : lcdOn s = true) :
    setLy s v = requestIrqIf { s with ppu := { s.ppu with ly := v } } (coincides s v) 1 := by
  have hon' : lcdOn { s with ppu := { s.ppu with ly := v } } = true := hon
  unfold setLy lycCheck
  rw [hon']
  rfl

theorem coincides_iff (v : Byte) : coincides s v = true ↔ v = s.ioByte 0x45 ∧ bit (s.ioByte 0x41) 6 = true := by
  simp [coincides]

/-- Requesting an interrupt on either of two conditions, one after the other. -/
theorem or_two_requests (f v : Byte) (a b : Bool) (p : Prop) [Decidable p] (hp : p ↔ b = true ∨ a = true) :
    f ||| (if a then v else 0) ||| (if b then v else 0) = f ||| (if p then v else 0) := by
  cases a <;> cases b <;> simp [hp, BitVec.or_assoc]

theorem requestIrqIf_ppu (b : Bool) (k : Nat) : (requestIrqIf s b k).ppu = s.ppu := by cases b <;> rfl

/-- A request changes the interrupt flags and nothing else. -/
theorem requestIrqIf_only (b : Bool) (k : Nat) : requestIrqIf s b k = { s with io := (requestIrqIf s b k).io } := by
  cases b <;> rfl

theorem speedFactor_eq : speedFactor s = if s.doubleSpeed then 2 else 1 := rfl

/-! ## The mode events (50_ppu R903) -/

/-- Mode 2 ends: the line is rendered as it stands. -/
theorem modeEvent2_eq : modeEvent2 s d = { s with ppu := { s.ppu with
    mode := .transfer
    modeDeadline := some (d + 172 * speedFactor s)
    backBuffer := s.ppu.backBuffer.set s.ppu.ly.toNat (renderedLine s s.ppu.ly)
    windowLine := if windowVisible s s.ppu.ly && !bgDisabled s then s.ppu.windowLine + 1 else s.ppu.windowLine } } := rfl

/-- Mode 3 ends: `u` is `s` in mode 0 with the STAT request. -/
theorem modeEvent3_eq : ∃ u : State, u = { s with
      io := if bit (s.ioByte 0x41) 3 then s.io.write 0x0F (s.ioByte 0x0F ||| 0x02) else s.io
      ppu := { s.ppu with mode := .hblank, modeDeadline := some (d + 204 * speedFactor s) } } ∧
    modeEvent3 s d = if s.hdma.active then hdmaBlock u else u := by
  refine ⟨_, rfl, ?_⟩
  unfold modeEvent3
  dsimp only
  rw [requestIrqIf_eq]
  rfl

/-- Mode 2 is entered on a line that has just been reached. -/
structure EntersSearch (s t : State) (line : Byte) (d : Nat) : Prop where
  ppu : t.ppu = { s.ppu with mode := .search, ly := line, modeDeadline := some (d + 80 * speedFactor s) }
  flags : t.ioByte 0x0F = s.ioByte 0x0F |||
    (if bit (s.ioByte 0x41) 5 ∨ line = s.ioByte 0x45 ∧ bit (s.ioByte 0x41) 6 then 0x02 else 0x00)
  only : t = { s with ppu := t.ppu, io := t.io }

theorem entersSearch (line : Byte) (hon : lcdOn s = true) : EntersSearch s (enterSearch (setLy s line) d) line d := by
  rw [setLy_eq s line hon]
  have hstat (b : Bool) : (requestIrqIf { s with ppu := { s.ppu with ly := line } } b 1).ioByte 0x41 = s.ioByte 0x41 :=
    requestIrqIf_ioByte_other _ b 1 (by decide)
  have hflags (b : Bool) : (requestIrqIf { s with ppu := { s.ppu with ly := line } } b 1).ioByte 0x0F =
    s.ioByte 0x0F ||| (if b then 0x02 else 0) := requestIrqIf_flags _ b 1
  unfold enterSearch
  dsimp only
  constructor
  case ppu =>
    rw [requestIrqIf_ppu, enterMode, requestIrqIf_only]
    rfl
  case flags =>
    rw [requestIrqIf_flags]
    refine Eq.trans ?_ (or_two_requests (s.ioByte 0x0F) 0x02 (coincides s line) (bit (s.ioByte 0x41) 5) _
      (or_congr Iff.rfl (coincides_iff s line).symm))
    rw [← hflags, ← hstat (coincides s line)]
    rfl
  case only =>
    rw [requestIrqIf_only, enterMode, requestIrqIf_only]

theorem modeEvent0_line (hon : lcdOn s = true) (hly : s.ppu.ly ≠ 143) :
    EntersSearch s (modeEvent0 s d) (s.ppu.ly + 1) d := by
  have hne : ¬(setLy s (s.ppu.ly + 1)).ppu.ly = 144 := by
    rw [setLy_eq s _ hon, requestIrqIf_ppu]
    show ¬ s.ppu.ly + 1 = 144
    bv_omega
  rw [modeEvent0, if_neg hne]
  exact entersSearch s d _ hon

theorem modeEvent1_top (hon : lcdOn s = true) (hly : s.ppu.ly = 153) : EntersSearch s (modeEvent1 s d) 0 d := by
  rw [modeEvent1, if_pos hly]
  exact entersSearch s d 0 hon

/-- From line to line of mode 1. -/
theorem modeEvent1_line (hon : lcdOn s = true) (hm : s.ppu.mode = .vblank) (hly : s.ppu.ly ≠ 153) :
    (modeEvent1 s d).ppu = { s.ppu with ly := s.ppu.ly + 1, modeDeadline := some (d + 456 * speedFactor s) } ∧
    (modeEvent1 s d).ioByte 0x0F = s.ioByte 0x0F |||
      (if s.ppu.ly + 1 = s.ioByte 0x45 ∧ bit (s.ioByte 0x41) 6 then 0x02 else 0x00) ∧
    modeEvent1 s d = { s with ppu := (modeEvent1 s d).ppu, io := (modeEvent1 s d).io } := by
  rw [modeEvent1, if_neg hly, setLy_eq s _ hon]
  have hcond (b : Bool) (p : Prop) [Decidable p] (h : b = true ↔ p) :
      (if b then (0x02 : Byte) else 0) = if p then 0x02 else 0x00 := if_congr h rfl rfl
  refine ⟨?ppu, ?flags, ?only⟩
  case ppu =>
    rw [enterMode, requestIrqIf_only, ← hm]
  case flags =>
    rw [← hcond _ _ (coincides_iff s (s.ppu.ly + 1))]
    exact requestIrqIf_flags ..
  case only => rw [enterMode, requestIrqIf_only]

theorem apuFrameTick_ppu : (apuFrameTick s).ppu = s.ppu := by rw [apuFrameTick_only]

theorem apuFrameTick_framesReady : (apuFrameTick s).host.framesReady = s.host.framesReady := by rw [apuFrameTick_only]

/-- The entry to line 144: the frame is published before the tick, whose effects are the APU's. -/
theorem enterVblank_effects :
    (enterVblank s d).ppu = { s.ppu with
      mode := .vblank, modeDeadline := some (d + 456 * speedFactor s), windowLine := 0
      publishedFrame := some s.ppu.backBuffer } ∧
    (enterVblank s d).host.framesReady = s.host.framesReady + 1 ∧
    (enterVblank s d).ioByte 0x0F = s.ioByte 0x0F ||| 0x01 ||| (if bit (s.ioByte 0x41) 4 then 0x02 else 0x00) := by
  have hstat : (requestIrq (enterMode s .vblank (d + 456 * speedFactor s)) 0).ioByte 0x41 = s.ioByte 0x41 :=
    ioByte_setIo_other _ _ (by decide)
  unfold enterVblank
  dsimp only
  rw [hstat]
  refine ⟨?ppu, ?frames, ?flags⟩
  case ppu =>
    rw [apuFrameTick_ppu, publishFrame, requestIrqIf_ppu]
    rfl
  case frames =>
    rw [apuFrameTick_framesReady, publishFrame, requestIrqIf_only]
    rfl
  case flags =>
    refine (apuFrameTick_ioByte_other _ (by decide) (by decide)).trans ?_
    refine (requestIrqIf_flags _ _ 1).trans ?_
    exact congrArg (· ||| _) (ioByte_setIo_same ..)

theorem modeEvent0_vblank (hon : lcdOn s = true) (hly : s.ppu.ly = 143) :
    (modeEvent0 s d).ppu = { s.ppu with
      mode := .vblank, ly := 144, modeDeadline := some (d + 456 * speedFactor s), windowLine := 0
      publishedFrame := some s.ppu.backBuffer } ∧
    (modeEvent0 s d).host.framesReady = s.host.framesReady + 1 ∧
    (modeEvent0 s d).ioByte 0x0F = s.ioByte 0x0F ||| 0x01 |||
      (if bit (s.ioByte 0x41) 4 ∨ 144 = s.ioByte 0x45 ∧ bit (s.ioByte 0x41) 6 then 0x02 else 0x00) := by
  have hset : setLy s (s.ppu.ly + 1) = requestIrqIf { s with ppu := { s.ppu with ly := 144 } } (coincides s 144) 1 := by
    rw [hly]
    exact setLy_eq s 144 hon
  have hppu : (setLy s (s.ppu.ly + 1)).ppu = { s.ppu with ly := 144 } := by rw [hset, requestIrqIf_ppu]
  have hspeed : speedFactor (setLy s (s.ppu.ly + 1)) = speedFactor s := by
    rw [hset, requestIrqIf_only]
    rfl
  have hframes : (setLy s (s.ppu.ly + 1)).host.framesReady = s.host.framesReady := by
    rw [hset, requestIrqIf_only]
  have hstat : (setLy s (s.ppu.ly + 1)).ioByte 0x41 = s.ioByte 0x41 := by
    rw [hset]
    exact requestIrqIf_ioByte_other _ _ 1 (by decide)
  have hflags : (setLy s (s.ppu.ly + 1)).ioByte 0x0F = s.ioByte 0x0F ||| (if coincides s 144 then 0x02 else 0) := by
    rw [hset]
    exact requestIrqIf_flags ..
  obtain ⟨hp, hf, hi⟩ := enterVblank_effects (setLy s (s.ppu.ly + 1)) d
  rw [hppu, hspeed] at hp
  rw [hframes] at hf
  rw [hflags, hstat] at hi
  rw [modeEvent0, if_pos (by rw [hppu])]
  refine ⟨hp, hf, hi.trans ?_⟩
  rw [BitVec.or_assoc (s.ioByte 0x0F), BitVec.or_comm _ 0x01, ← BitVec.or_assoc]
  exact or_two_requests _ 0x02 (coincides s 144) (bit (s.ioByte 0x41) 4) _ (or_congr Iff.rfl (coincides_iff s 144).symm)

end

section
variable {s : State} (d : Nat)

theorem modeEvent_search (hm : s.ppu.mode = .search) : modeEvent s d = modeEvent2 s d := by simp only [modeEvent, hm]

theorem modeEvent_transfer (hm : s.ppu.mode = .transfer) : modeEvent s d = modeEvent3 s d := by simp only [modeEvent, hm]

theorem modeEvent_hblank (hm : s.ppu.mode = .hblank) : modeEvent s d = modeEvent0 s d := by simp only [modeEvent, hm]

theorem modeEvent_vblank (hm : s.ppu.mode = .vblank) : modeEvent s d = modeEvent1 s d := by simp only [modeEvent, hm]

end

/-- Settles O52: one equation per mode, the end of mode 0 and of a line of mode 1 by the line. -/
theorem modeEvents : Obligations.ModeEvents := by
  unfold Obligations.ModeEvents
  rintro s t d _ _ _ _ rfl hon rfl rfl rfl rfl
  have hevent : runEvent s .ppu d = modeEvent s d := if_pos hon
  rw [hevent, ← speedFactor_eq]
  refine ⟨fun hm => ?search, fun hm => ?transfer, fun hm hly => ?line, fun hm hly => ?vblank, fun hm hly => ?top,
    fun hm hly => ?vblankLine⟩
  case search =>
    rw [modeEvent_search d hm]
    exact modeEvent2_eq s d
  case transfer =>
    rw [modeEvent_transfer d hm]
    exact modeEvent3_eq s d
  case line =>
    rw [modeEvent_hblank d hm]
    have h := modeEvent0_line s d hon hly
    exact ⟨h.ppu, h.flags, h.only⟩
  case vblank =>
    rw [modeEvent_hblank d hm]
    obtain ⟨hp, hframes, hflags⟩ := modeEvent0_vblank s d hon hly
    simp only [hp, hframes, hflags, and_self]
  case top =>
    rw [modeEvent_vblank d hm]
    have h := modeEvent1_top s d hon hly
    exact ⟨h.ppu, h.flags, h.only⟩
  case vblankLine =>
    rw [modeEvent_vblank d hm]
    exact modeEvent1_line s d hon hm hly

/-! ## A frame (50_ppu R901, R902) -/

/-- What a PPU event leaves alone beside what every event does: the timer, the serial deadline, and every I/O byte but IF
and channel 1's frequency. -/
structure PpuEventKeeps (s t : State) : Prop where
  timer : t.timer = s.timer
  serialDeadline : t.serialDeadline = s.serialDeadline
  ioByte : ∀ j, j ≠ 0x0F → j ≠ 0x13 → j ≠ 0x14 → t.ioByte j = s.ioByte j

theorem PpuEventKeeps.trans {s t u : State} (h : PpuEventKeeps s t) (k : PpuEventKeeps t u) : PpuEventKeeps s u where
  timer := k.timer.trans h.timer
  serialDeadline := k.serialDeadline.trans h.serialDeadline
  ioByte j h0 h3 h4 := (k.ioByte j h0 h3 h4).trans (h.ioByte j h0 h3 h4)

section
variable (s : State) (d : Nat)

theorem ppuReplaced_keeps (p : Ppu) : PpuEventKeeps s { s with ppu := p } := ⟨rfl, rfl, fun _ _ _ _ => rfl⟩

theorem requestIrqIf_ppuKeeps (b : Bool) (k : Nat) : PpuEventKeeps s (requestIrqIf s b k) where
  timer := by rw [requestIrqIf_only]
  serialDeadline := by rw [requestIrqIf_only]
  ioByte j h0 _ _ := requestIrqIf_ioByte_other s b k h0

theorem setLy_ppuKeeps (v : Byte) : PpuEventKeeps s (setLy s v) :=
  (ppuReplaced_keeps s { s.ppu with ly := v }).trans (requestIrqIf_ppuKeeps ..)

theorem hdmaBlock_ppuKeeps : PpuEventKeeps s (hdmaBlock s) := by
  rw [hdmaBlock_only]
  generalize (hdmaBlock s).vram = m, (hdmaBlock s).hdma = h
  exact ⟨rfl, rfl, fun _ _ _ _ => rfl⟩

theorem publishFrame_ppuKeeps : PpuEventKeeps s (publishFrame s) := ⟨rfl, rfl, fun _ _ _ _ => rfl⟩

theorem apuFrameTick_ppuKeeps : PpuEventKeeps s (apuFrameTick s) where
  timer := by rw [apuFrameTick_only]
  serialDeadline := by rw [apuFrameTick_only]
  ioByte _ _ h3 h4 := apuFrameTick_ioByte_other s h3 h4

theorem enterMode_ppuKeeps (m : PpuMode) : PpuEventKeeps s (enterMode s m d) := ppuReplaced_keeps ..

theorem enterSearch_ppuKeeps : PpuEventKeeps s (enterSearch s d) :=
  (enterMode_ppuKeeps ..).trans (requestIrqIf_ppuKeeps ..)

theorem enterVblank_ppuKeeps : PpuEventKeeps s (enterVblank s d) := by
  have hirq := (enterMode_ppuKeeps s (d + 456 * speedFactor s) .vblank).trans (requestIrqIf_ppuKeeps _ true 0)
  exact (((hirq.trans (requestIrqIf_ppuKeeps ..)).trans (publishFrame_ppuKeeps _)).trans
    (apuFrameTick_ppuKeeps _)).trans (ppuReplaced_keeps ..)

theorem modeEvent_ppuKeeps : PpuEventKeeps s (modeEvent s d) := by
  unfold modeEvent
  split
  · exact (enterMode_ppuKeeps ..).trans (ppuReplaced_keeps ..)
  · have hirq := (enterMode_ppuKeeps s (d + 204 * speedFactor s) .hblank).trans (requestIrqIf_ppuKeeps _
      (bit ((enterMode s .hblank (d + 204 * speedFactor s)).ioByte 0x41) 3) 1)
    unfold modeEvent3
    dsimp only
    split
    · exact hirq.trans (hdmaBlock_ppuKeeps _)
    · exact hirq
  · unfold modeEvent0
    dsimp only
    split
    · exact (setLy_ppuKeeps ..).trans (enterVblank_ppuKeeps ..)
    · exact (setLy_ppuKeeps ..).trans (enterSearch_ppuKeeps ..)
  · unfold modeEvent1
    split
    · exact (setLy_ppuKeeps ..).trans (enterSearch_ppuKeeps ..)
    · exact (setLy_ppuKeeps ..).trans (enterMode_ppuKeeps ..)

theorem offFrameEvent_ppuKeeps : PpuEventKeeps s (offFrameEvent s d) :=
  ((ppuReplaced_keeps ..).trans (publishFrame_ppuKeeps _)).trans (apuFrameTick_ppuKeeps _)

theorem PpuEventKeeps.lcdOn {s t : State} (h : PpuEventKeeps s t) : lcdOn t = lcdOn s := by
  unfold Machine.lcdOn
  rw [h.ioByte 0x40 (by decide) (by decide) (by decide)]

end

/-- The LCD is on, and the PPU in mode `m` on line `line` with its deadline at `e`; `k` is the speed factor. -/
structure PpuAt (k : Nat) (s : State) (m : PpuMode) (line e : Nat) : Prop where
  on : lcdOn s = true
  speed : speedFactor s = k
  mode : s.ppu.mode = m
  ly : s.ppu.ly = BitVec.ofNat 8 line
  deadline : s.ppu.modeDeadline = some e

section
variable {k : Nat} {s : State} {line e : Nat}

/-- Mode events keep the LCD on and the speed, so what is left is the PPU's record. -/
theorem PpuAt.next {m m' : PpuMode} {line' e' : Nat} (h : PpuAt k s m line e) (hm : (modeEvent s e).ppu.mode = m')
    (hly : (modeEvent s e).ppu.ly = BitVec.ofNat 8 line') (he : (modeEvent s e).ppu.modeDeadline = some e') :
    PpuAt k (modeEvent s e) m' line' e' where
  on := (modeEvent_ppuKeeps s e).lcdOn.trans h.on
  speed := by rw [← h.speed, speedFactor, (modeEvent_eventKeeps s e).doubleSpeed, speedFactor]
  mode := hm
  ly := hly
  deadline := he

theorem PpuAt.afterSearch (h : PpuAt k s .search line e) : PpuAt k (modeEvent s e) .transfer line (e + 172 * k) := by
  refine h.next ?_ ?_ ?_
  all_goals rw [modeEvent_search e h.mode, modeEvent2_eq]
  · exact h.ly
  · rw [h.speed]

theorem PpuAt.afterTransfer (h : PpuAt k s .transfer line e) : PpuAt k (modeEvent s e) .hblank line (e + 204 * k) := by
  have hppu : (modeEvent s e).ppu = { s.ppu with mode := .hblank, modeDeadline := some (e + 204 * speedFactor s) } := by
    obtain ⟨u, hu, ht⟩ := modeEvent3_eq s e
    rw [modeEvent_transfer e h.mode, ht]
    split
    · rw [hdmaBlock_only, hu]
    · rw [hu]
  refine h.next ?_ ?_ ?_
  all_goals rw [hppu]
  · exact h.ly
  · rw [h.speed]

theorem EntersSearch.ppuAt {m : PpuMode} {line' : Nat} (h : PpuAt k s m line e)
    (ht : EntersSearch s (modeEvent s e) (BitVec.ofNat 8 line') e) :
    PpuAt k (modeEvent s e) .search line' (e + 80 * k) := by
  refine h.next ?_ ?_ ?_
  all_goals rw [ht.ppu]
  rw [h.speed]

theorem PpuAt.afterHblank (h : PpuAt k s .hblank line e) (hline : line < 143) :
    PpuAt k (modeEvent s e) .search (line + 1) (e + 80 * k) := by
  have hly := h.ly
  refine EntersSearch.ppuAt h ?_
  rw [modeEvent_hblank e h.mode, BitVec.ofNat_add, ← hly]
  exact modeEvent0_line s e h.on (by bv_omega)

theorem PpuAt.afterLastHblank (h : PpuAt k s .hblank 143 e) : PpuAt k (modeEvent s e) .vblank 144 (e + 456 * k) ∧
    bit ((modeEvent s e).ioByte 0x0F) 0 = true := by
  obtain ⟨hppu, -, hflags⟩ := modeEvent0_vblank s e h.on h.ly
  rw [← modeEvent_hblank e h.mode] at hppu hflags
  refine ⟨h.next ?_ ?_ ?_, ?_⟩
  case refine_4 =>
    rw [hflags]
    split <;> simp [bit]
  all_goals rw [hppu]
  · rfl
  · rw [h.speed]

theorem PpuAt.afterVblankLine (h : PpuAt k s .vblank line e) (hlo : 144 ≤ line) (hline : line < 153) :
    PpuAt k (modeEvent s e) .vblank (line + 1) (e + 456 * k) := by
  have hly := h.ly
  obtain ⟨hppu, -, -⟩ := modeEvent1_line s e h.on h.mode (by bv_omega)
  rw [← modeEvent_vblank e h.mode] at hppu
  refine h.next ?_ ?_ ?_
  all_goals rw [hppu]
  · exact h.mode
  · rw [BitVec.ofNat_add, ← hly]
    rfl
  · rw [h.speed]

theorem PpuAt.afterFrame (h : PpuAt k s .vblank 153 e) : PpuAt k (modeEvent s e) .search 0 (e + 80 * k) := by
  refine EntersSearch.ppuAt h ?_
  rw [modeEvent_vblank e h.mode]
  exact modeEvent1_top s e h.on h.ly

end

section
variable {trace : Nat → State} {d k : Nat}
  (hstep : ∀ n, ∃ e, (trace n).ppu.modeDeadline = some e ∧ trace (n + 1) = modeEvent (trace n) e)
include hstep

/-- The next state of a trace is that of the event at the deadline. -/
theorem trace_succ {n : Nat} {m : PpuMode} {line e : Nat} (h : PpuAt k (trace n) m line e) :
    trace (n + 1) = modeEvent (trace n) e := by
  obtain ⟨e', he', ht⟩ := hstep n
  obtain rfl := Option.some.inj (h.deadline.symm.trans he')
  exact ht

variable (hstart : PpuAt k (trace 0) .search 0 d)
include hstart

/-- A line takes three events and 456 cycles. -/
theorem trace_line (j : Nat) (hj : j ≤ 143) : PpuAt k (trace (3 * j)) .search j (d + 456 * j * k) ∧
    PpuAt k (trace (3 * j + 2)) .hblank j (d + (456 * j + 376) * k) := by
  have hmiddle {j : Nat} (h : PpuAt k (trace (3 * j)) .search j (d + 456 * j * k)) :
      PpuAt k (trace (3 * j + 2)) .hblank j (d + (456 * j + 376) * k) := by
    have h1 := trace_succ hstep h ▸ h.afterSearch
    have h2 := trace_succ hstep h1 ▸ h1.afterTransfer
    have hsum : d + 456 * j * k + 172 * k + 204 * k = d + (456 * j + 376) * k := by ring
    exact hsum ▸ h2
  induction j with
  | zero =>
    have h0 : PpuAt k (trace (3 * 0)) .search 0 (d + 456 * 0 * k) := by simpa using hstart
    exact ⟨h0, hmiddle h0⟩
  | succ j ih =>
    obtain ⟨-, h⟩ := ih (by omega)
    have hsum : d + (456 * j + 376) * k + 80 * k = d + 456 * (j + 1) * k := by ring
    have hnext : PpuAt k (trace (3 * (j + 1))) .search (j + 1) (d + 456 * (j + 1) * k) :=
      hsum ▸ trace_succ hstep h ▸ h.afterHblank (by omega)
    exact ⟨hnext, hmiddle hnext⟩

/-- A line of mode 1 takes one event and 456 cycles. -/
theorem trace_vblank (j : Nat) (hj : j ≤ 9) :
    PpuAt k (trace (432 + j)) .vblank (144 + j) (d + (144 * 456 + 376 + 456 * j) * k) := by
  induction j with
  | zero =>
    obtain ⟨-, h⟩ := trace_line hstep hstart 143 le_rfl
    have hsum : d + (456 * 143 + 376) * k + 456 * k = d + (144 * 456 + 376 + 456 * 0) * k := by ring
    exact hsum ▸ trace_succ hstep h ▸ h.afterLastHblank.1
  | succ j ih =>
    have h := ih (by omega)
    have hsum : d + (144 * 456 + 376 + 456 * j) * k + 456 * k = d + (144 * 456 + 376 + 456 * (j + 1)) * k := by ring
    exact hsum ▸ trace_succ hstep h ▸ h.afterVblankLine (by omega) (by omega)

end

/-- Settles O53: 144 lines of three events, the event into line 144, nine lines of mode 1 and the way back to line 0. -/
theorem frameTakesSeventyThousandCycles : Obligations.FrameTakesSeventyThousandCycles := by
  unfold Obligations.FrameTakesSeventyThousandCycles
  rintro trace d _ rfl hon hm hly hd hstep
  rw [← speedFactor_eq]
  have hstart : PpuAt (speedFactor (trace 0)) (trace 0) .search 0 d := ⟨hon, rfl, hm, hly, hd⟩
  obtain ⟨-, hlast⟩ := trace_line hstep hstart 143 le_rfl
  have hirq : bit ((trace 432).ioByte 0x0F) 0 = true := by
    have h432 : trace 432 = modeEvent (trace 431) _ := trace_succ hstep hlast
    rw [h432]
    exact hlast.afterLastHblank.2
  have hentry := trace_vblank hstep hstart 0 (by decide)
  have htop := trace_vblank hstep hstart 9 le_rfl
  have hend : PpuAt (speedFactor (trace 0)) (trace 442) .search 0 _ := trace_succ hstep htop ▸ htop.afterFrame
  refine ⟨hentry.mode, hentry.ly, hirq, hentry.deadline, hend.mode, hend.ly, hend.deadline.trans ?_⟩
  congr 1
  ring

end Sys2Proof.Proofs
end

section
/-! SUPPORT and proofs of O10, O54 and O55. Writes of the LCD's registers on the bus (50_ppu R904, R906), the rendering of a
line (R920), and the display's invariant. -/

namespace Sys2Proof.Proofs

open Sys2Proof.Machine

/-! ## The registers on the bus -/

/-- A register that exists in the mode is written through `ioWriteReg`. -/
theorem memWrite_reg (s : State) {a : Word} {k : Nat} (v : Byte) (ha : a.toNat = 0xFF00 + k) (hk : k < 0x80)
    (hused : ioUnused s.cgbMode k = false) : memWrite s a v = ioWriteReg s k v := by
  rw [memWrite_io s v ha hk, ioWrite, hused]
  exact if_neg (by simp)

theorem memRead_reg (s : State) {a : Word} {k : Nat} (ha : a.toNat = 0xFF00 + k) (hk : k < 0x80)
    (hused : ioUnused s.cgbMode k = false) : memRead s a = ioReadReg s k := by
  rw [memRead_io s (by omega) (by omega), ha, Nat.add_sub_cancel_left, ioRead, hused]
  exact if_neg (by simp)

/-- An address that is unused only outside `cgb_mode`, or in no mode. -/
theorem ioUnused_of_unusedIo {cgb : Bool} {k : Nat} (h : unusedIo k = false) (hcgb : cgbOnlyIo k = false ∨ cgb = true) :
    ioUnused cgb k = false := by
  obtain hcgb | rfl := hcgb
  · simp [ioUnused, h, hcgb]
  · simp [ioUnused, h]

section
variable (s : State) (v : Byte)

/-! ## LCDC (50_ppu R906) -/

theorem memWrite_lcdc : memWrite s 0xFF40 v = writeLcdc s v :=
  memWrite_reg s (k := 0x40) v rfl (by decide) (ioUnused_of_unusedIo rfl (.inl rfl))

variable {s v}

theorem writeLcdc_off (hon : lcdOn s = true) (hv : bit v 7 = false) : writeLcdc s v = { s with
    io := s.io.write 0x40 v
    ppu := { s.ppu with
      ly := 0, mode := .hblank, modeDeadline := none
      frameDeadlineOff := some (s.counter + 70224 * speedFactor s) } } := by
  simp only [writeLcdc, hon, hv, Bool.not_false, Bool.and_self, if_true]
  rfl

theorem writeLcdc_on (hoff : lcdOn s = false) (hv : bit v 7 = true) : writeLcdc s v = { s with
    io := s.io.write 0x40 v
    ppu := { s.ppu with
      ly := 0, mode := .search, windowLine := 0, frameDeadlineOff := none
      modeDeadline := some (s.counter + 80 * speedFactor s) } } := by
  simp only [writeLcdc, hoff, hv, Bool.not_true, Bool.not_false, Bool.and_self, Bool.false_eq_true, if_false, if_true]
  rfl

theorem writeLcdc_same (h : lcdOn s = bit v 7) : writeLcdc s v = s.setIo 0x40 v := by
  simp only [writeLcdc, h, Bool.and_not_self, Bool.not_and_self, Bool.false_eq_true, if_false]

theorem lcdOn_writeLcdc : lcdOn (writeLcdc s v) = bit v 7 := by
  unfold lcdOn
  rw [writeLcdc_only]
  exact congrArg (bit · 7) (s.io.read_write_same 0x40 v)

/-! ## LYC (50_ppu R904) -/

theorem writeLyc_eq : writeLyc s v = requestIrqIf (s.setIo 0x45 v)
    (lcdOn s && s.ppu.ly == v && bit (s.ioByte 0x41) 6) 1 := by
  have hlyc : (s.setIo 0x45 v).ioByte 0x45 = v := ioByte_setIo_same ..
  have hother {j : Nat} (hj : j ≠ 0x45) : (s.setIo 0x45 v).ioByte j = s.ioByte j := ioByte_setIo_other s v hj
  rw [writeLyc, lycCheck, lcdOn, hlyc, hother (by decide), hother (by decide)]
  rfl

end

/-! ## The palette data registers (10_state R110, R111) -/

theorem paletteIndex_eq (ps : Byte) : paletteIndex ps = ps.toNat % 64 := field_low6 ps

/-- Bit 7 set moves the six index bits on, and bit 6 stays (R110). -/
theorem paletteAdvance_eq (ps : Byte) : paletteAdvance ps =
    if bit ps 7 then (ps &&& 0xC0) ||| BitVec.ofNat 8 ((ps.toNat % 64 + 1) % 64) else ps := by
  have hindex : BitVec.ofNat 8 ((ps.toNat % 64 + 1) % 64) &&& 0x3F = BitVec.ofNat 8 ((ps.toNat % 64 + 1) % 64) :=
    and_lowMask_of_lt 6 (by decide) (Nat.mod_lt _ (by decide))
  rw [paletteAdvance, paletteIndex_eq, mergeBits, hindex]
  rfl

/-- R906: the off-frame event publishes a white frame and moves only its own deadline. -/
theorem offFrameEvent_effects (s : State) (d : Nat) :
    (offFrameEvent s d).ppu = { s.ppu with
      backBuffer := Frame.uniform (.dmg 0), publishedFrame := some (Frame.uniform (.dmg 0))
      frameDeadlineOff := some (d + 70224 * speedFactor s) } ∧
    (offFrameEvent s d).host.framesReady = s.host.framesReady + 1 ∧
    (offFrameEvent s d).ioByte 0x0F = s.ioByte 0x0F := by
  unfold offFrameEvent
  dsimp only
  refine ⟨?ppu, ?frames, ?flags⟩
  case ppu => rw [apuFrameTick_ppu, publishFrame]
  case frames => rw [apuFrameTick_framesReady, publishFrame]
  case flags => exact apuFrameTick_ioByte_other _ (by decide) (by decide)

/-- Settles O54. -/
theorem lcdRegisterWrites : Obligations.LcdRegisterWrites := by
  unfold Obligations.LcdRegisterWrites
  rintro s t v d _ _ rfl rfl
  rw [← speedFactor_eq, memWrite_lcdc]
  refine ⟨fun hon hv => writeLcdc_off hon hv, fun hoff hv => writeLcdc_on hoff hv, fun h => writeLcdc_same h, ?stat, ?ly,
    ?lyc, ?offFrame, ?palettes⟩
  case stat => exact memWrite_reg s (k := 0x41) v rfl (by decide) (ioUnused_of_unusedIo rfl (.inl rfl))
  case ly => exact memWrite_reg s (k := 0x44) v rfl (by decide) (ioUnused_of_unusedIo rfl (.inl rfl))
  case lyc =>
    rintro rfl
    have hbus : memWrite s 0xFF45 v = writeLyc s v :=
      memWrite_reg s (k := 0x45) v rfl (by decide) (ioUnused_of_unusedIo rfl (.inl rfl))
    rw [hbus, writeLyc_eq]
    refine ⟨?_, ?_, ?_⟩
    · rw [requestIrqIf_ioByte_other _ _ _ (by decide), ioByte_setIo_same]
    · rw [requestIrqIf_only]
      rfl
    · rw [requestIrqIf_flags, ioByte_setIo_other _ _ (by decide)]
      simp only [Bool.and_eq_true, beq_iff_eq, and_assoc]
      rfl
  case offFrame =>
    rintro hoff rfl
    have hevent : runEvent s .ppu d = offFrameEvent s d := if_neg (by simp [hoff])
    obtain ⟨hppu, hframes, hflags⟩ := offFrameEvent_effects s d
    rw [hevent, hppu]
    exact ⟨rfl, hframes, rfl, hflags, rfl, rfl⟩
  case palettes =>
    intro hcgb
    have hused {k : Nat} (hk : unusedIo k = false) : ioUnused s.cgbMode k = false := ioUnused_of_unusedIo hk (.inr hcgb)
    rw [memRead_reg s (k := 0x69) rfl (by decide) (hused rfl), memRead_reg s (k := 0x6B) rfl (by decide) (hused rfl),
      memWrite_reg s (k := 0x69) v rfl (by decide) (hused rfl), memWrite_reg s (k := 0x6B) v rfl (by decide) (hused rfl)]
    simp only [ioReadReg, ioWriteReg, writeBcpd, writeOcpd, paletteAdvance_eq, paletteIndex_eq, State.setIo, and_self]

/-! ## The rendering of a line (50_ppu R910 to R912, R920) -/

theorem renderedLine_length (s : State) (ly : Byte) : (renderedLine s ly).length = 160 := by simp [renderedLine]

theorem renderedLine_getElem? (s : State) (ly : Byte) {px : Nat} (h : px < 160) :
    (renderedLine s ly)[px]? = some (composePixel s (bySpritePriority (spritesOnLine s ly)) ly px) := by
  simp [renderedLine, h]

/-- A frame with one row replaced by a row of 160 pixels. -/
theorem frame_set_wf {f : Frame} {row : List Pixel} (n : Nat) (hf : Frame.wf f) (hrow : row.length = 160) :
    Frame.wf (f.set n row) := by
  obtain ⟨hlen, hrows⟩ := hf
  refine ⟨List.length_set.trans hlen, fun r hr => ?_⟩
  obtain hr | rfl := List.mem_or_eq_of_mem_set hr
  · exact hrows r hr
  · exact hrow

theorem colourIndex_bits (lo hi : Byte) (c : Nat) : (colourIndex lo hi c).getLsbD 1 = bit hi (7 - c) ∧
    (colourIndex lo hi c).getLsbD 0 = bit lo (7 - c) := by
  unfold colourIndex
  cases bit hi (7 - c) <;> cases bit lo (7 - c) <;> exact ⟨rfl, rfl⟩

/-- An offset inside bank 0 is read as it is. -/
theorem vramAt_zero (s : State) {off : Nat} (h : off < 0x2000) : vramAt s 0 off = s.vram.read off := by
  rw [vramAt, Nat.zero_mul, Nat.zero_add, Nat.mod_eq_of_lt h]

/-- Both tile areas end below 0x1800 (R911). -/
theorem bgTileOffset_le (lcdc t : Byte) : bgTileOffset lcdc t + 16 ≤ 0x1800 := by
  have ht := t.isLt
  have hlt : 2 * t.toInt < 2 ^ 8 := BitVec.two_mul_toInt_lt
  unfold bgTileOffset
  split <;> omega

/-- Outside `cgb_mode` a map pixel has no attributes, so its tile is shown upright, from bank 0. -/
theorem mapPixel_dmg_index {s : State} (hcgb : s.cgbMode = false) (high : Bool) {x y : Nat} (hx : x < 256) (hy : y < 256)
    {t : Byte} (ht : t = s.vram.read ((if high then 0x1C00 else 0x1800) + y / 8 * 32 + x / 8)) :
    (mapPixel s high x y).index = colourIndex (s.vram.read (bgTileOffset (s.ioByte 0x40) t + 2 * (y % 8)))
      (s.vram.read (bgTileOffset (s.ioByte 0x40) t + 2 * (y % 8) + 1)) (x % 8) := by
  have hmap : vramAt s 0 ((if high then 0x1C00 else 0x1800) + y / 8 * 32 + x / 8) = t := by
    rw [ht]
    exact vramAt_zero s (by split <;> omega)
  have htile := bgTileOffset_le (s.ioByte 0x40) t
  have hupright (b : Nat) : bit 0 b = false := BitVec.getLsbD_zero
  simp only [mapPixel, hmap, hcgb, hupright, Bool.false_eq_true, if_false, tilePixel]
  rw [vramAt_zero s (by omega), vramAt_zero s (by omega)]

/-- Settles O55: the row is set in the frame; a background pixel outside the window is one of the map's. -/
theorem renderingWritesOneRow : Obligations.RenderingWritesOneRow := by
  unfold Obligations.RenderingWritesOneRow
  refine ⟨?row, fun lo hi c _ => colourIndex_bits lo hi c, ?background⟩
  case row =>
    rintro s t ly hwf hly rfl
    refine ⟨rfl, frame_set_wf _ hwf (renderedLine_length s ly), fun row hrow => ?others, fun px hpx => ?pixel, rfl⟩
    case others => exact List.getElem?_set_ne hrow.symm
    case pixel =>
      have hset : (renderLine s ly).ppu.backBuffer[ly.toNat]? = some (renderedLine s ly) :=
        List.getElem?_set_self (hly.trans_eq hwf.1.symm)
      rw [hset]
      exact renderedLine_getElem? s ly hpx
  case background =>
    rintro s ly px _ _ t hdrawn hwindow hcgb rfl rfl ht
    rw [bgPixelAt, hdrawn, hwindow]
    exact mapPixel_dmg_index hcgb _ (Nat.mod_lt _ (by decide)) (Nat.mod_lt _ (by decide)) ht

/-! ## The display's invariant -/

/-- `DisplayInv` as it speaks of the PPU and of LCDC bit 7. -/
structure PpuInv (on : Bool) (p : Ppu) : Prop where
  modeDeadline : p.modeDeadline.isSome = on
  offDeadline : p.frameDeadlineOff.isSome = !on
  lineBound : p.ly.toNat ≤ 153
  vblankLines : p.mode = .vblank ↔ 144 ≤ p.ly.toNat
  offAtRest : on = false → p.ly = 0 ∧ p.mode = .hblank
  backBuffer : Frame.wf p.backBuffer
  publishedFrame : ∀ f, p.publishedFrame = some f → Frame.wf f

theorem displayInv_iff {s : State} : DisplayInv s ↔ PpuInv (lcdOn s) s.ppu :=
  ⟨fun h => ⟨h.modeDeadline, h.offDeadline, h.lineBound, h.vblankLines, h.offAtRest, h.backBuffer, h.publishedFrame⟩,
    fun h => ⟨h.modeDeadline, h.offDeadline, h.lineBound, h.vblankLines, h.offAtRest, h.backBuffer, h.publishedFrame⟩⟩

section
variable {p : Ppu}

/-- What keeps the invariant while the LCD is on: any mode and line that agree, a deadline, and frames of the size. -/
theorem PpuInv.mode (h : PpuInv true p) {m : PpuMode} {line : Byte} (hline : line.toNat ≤ 153)
    (hm : m = .vblank ↔ 144 ≤ line.toNat) {back : Frame} (hback : Frame.wf back) {published : Option Frame}
    (hpublished : ∀ f, published = some f → Frame.wf f) (d : Nat) (w : Byte) : PpuInv true { p with
      mode := m, ly := line, modeDeadline := some d, windowLine := w, backBuffer := back, publishedFrame := published } where
  modeDeadline := rfl
  offDeadline := h.offDeadline
  lineBound := hline
  vblankLines := hm
  offAtRest hf := by cases hf
  backBuffer := hback
  publishedFrame := hpublished

/-- Lines 0 to 143 are those of the other modes. -/
theorem PpuInv.line_lt (h : PpuInv true p) (hm : p.mode ≠ .vblank) : p.ly.toNat < 144 :=
  Nat.lt_of_not_le fun hle => hm (h.vblankLines.mpr hle)

/-- Switching the LCD off puts the PPU at rest (R906). -/
theorem PpuInv.off {on : Bool} (h : PpuInv on p) (d : Nat) : PpuInv false { p with
    ly := 0, mode := .hblank, modeDeadline := none, frameDeadlineOff := some d } where
  modeDeadline := rfl
  offDeadline := rfl
  lineBound := Nat.zero_le _
  vblankLines := iff_of_false (fun hm => by cases hm) (Nat.not_succ_le_zero 143)
  offAtRest _ := ⟨rfl, rfl⟩
  backBuffer := h.backBuffer
  publishedFrame := h.publishedFrame

/-- Switching the LCD on begins line 0 (R906). -/
theorem PpuInv.on {on : Bool} (h : PpuInv on p) (d : Nat) : PpuInv true { p with
    ly := 0, mode := .search, windowLine := 0, frameDeadlineOff := none, modeDeadline := some d } where
  modeDeadline := rfl
  offDeadline := rfl
  lineBound := Nat.zero_le _
  vblankLines := iff_of_false (fun hm => by cases hm) (Nat.not_succ_le_zero 143)
  offAtRest hf := by cases hf
  backBuffer := h.backBuffer
  publishedFrame := h.publishedFrame

theorem frame_uniform_wf (p : Pixel) : Frame.wf (Frame.uniform p) := by
  refine ⟨List.length_replicate, fun row hrow => ?_⟩
  obtain ⟨-, rfl⟩ := List.mem_replicate.mp hrow
  exact List.length_replicate

end

section
variable {s t : State}

theorem DisplayInv.congr (h : DisplayInv s) (hppu : t.ppu = s.ppu) (hon : lcdOn t = lcdOn s) : DisplayInv t := by
  rw [displayInv_iff, hppu, hon]
  exact displayInv_iff.mp h

theorem lcdOn_setIo (s : State) {k : Nat} (v : Byte) (h : k ≠ 0x40) : lcdOn (s.setIo k v) = lcdOn s :=
  congrArg (bit · 7) (ioByte_setIo_other s v h.symm)

theorem DisplayInv.lcdc (h : DisplayInv s) (v : Byte) : DisplayInv (writeLcdc s v) := by
  have hp := displayInv_iff.mp h
  rw [displayInv_iff, lcdOn_writeLcdc]
  cases hon : lcdOn s <;> cases hv : bit v 7
  case true.false => exact writeLcdc_off hon hv ▸ PpuInv.off hp _
  case false.true => exact writeLcdc_on hon hv ▸ PpuInv.on hp _
  case false.false =>
    rw [writeLcdc_same (hon.trans hv.symm)]
    exact hon ▸ hp
  case true.true =>
    rw [writeLcdc_same (hon.trans hv.symm)]
    exact hon ▸ hp

theorem DisplayInv.bus (htouch : BusTouch s t) (h : DisplayInv s) : DisplayInv t := by
  cases htouch with
  | io k v hk =>
    obtain ⟨-, -, hk⟩ := hk
    exact DisplayInv.congr h rfl (lcdOn_setIo s v hk)
  | storage ht =>
    rw [ht]
    exact { h with }
  | sound k v hlo hhi =>
    refine DisplayInv.congr h ?_ (congrArg (bit · 7) (writeSound_ioByte_other s k v (by omega)))
    rw [writeSound_only]
  | power v =>
    refine DisplayInv.congr h ?_ (congrArg (bit · 7) (writeNr52_ioByte_other s v (by decide)))
    obtain ⟨io, apu, ht⟩ := writeNr52_only s v
    rw [ht]
  | lcdc v => exact DisplayInv.lcdc h v
  | tima v =>
    rw [writeTima_only]
    exact { h with }
  | tac v => exact DisplayInv.congr h rfl (lcdOn_setIo s v (by decide))
  | mapper | hdma | div | serial => exact { h with }

/-- The mode events, by their equations (50_ppu R903). -/
theorem PpuInv.modeEvent (hon : lcdOn s = true) (h : PpuInv true s.ppu) (d : Nat) :
    PpuInv true (modeEvent s d).ppu := by
  have hne (m : PpuMode) (hm : m ≠ .vblank) {line : Byte} (hline : line.toNat < 144) :
      m = .vblank ↔ 144 ≤ line.toNat := iff_of_false hm (Nat.not_le_of_lt hline)
  cases hm : s.ppu.mode with
  | search =>
    have hline := h.line_lt (by rw [hm]; decide)
    rw [modeEvent_search d hm, modeEvent2_eq]
    exact h.mode h.lineBound (hne _ (by decide) hline) (frame_set_wf _ h.backBuffer (renderedLine_length ..))
      h.publishedFrame _ _
  | transfer =>
    have hline := h.line_lt (by rw [hm]; decide)
    obtain ⟨u, hu, ht⟩ := modeEvent3_eq s d
    have hppu : (Machine.modeEvent s d).ppu = u.ppu := by
      rw [modeEvent_transfer d hm, ht]
      split
      · rw [hdmaBlock_only]
      · rfl
    rw [hppu, hu]
    exact h.mode h.lineBound (hne _ (by decide) hline) h.backBuffer h.publishedFrame _ _
  | hblank =>
    have hline := h.line_lt (by rw [hm]; decide)
    rw [modeEvent_hblank d hm]
    by_cases hly : s.ppu.ly = 143
    · obtain ⟨hppu, -, -⟩ := modeEvent0_vblank s d hon hly
      rw [hppu]
      exact h.mode (by decide) (by decide) h.backBuffer (fun f hf => Option.some.inj hf ▸ h.backBuffer) _ _
    · have hnext : (s.ppu.ly + 1).toNat < 144 := by bv_omega
      rw [(modeEvent0_line s d hon hly).ppu]
      exact h.mode (by omega) (hne _ (by decide) hnext) h.backBuffer h.publishedFrame _ _
  | vblank =>
    have hline := h.vblankLines.mp hm
    have hbound := h.lineBound
    rw [modeEvent_vblank d hm]
    by_cases hly : s.ppu.ly = 153
    · rw [(modeEvent1_top s d hon hly).ppu]
      exact h.mode (by decide) (by decide) h.backBuffer h.publishedFrame _ _
    · have hnext : (s.ppu.ly + 1).toNat = s.ppu.ly.toNat + 1 := by bv_omega
      have hlt : s.ppu.ly.toNat < 153 := by bv_omega
      obtain ⟨hppu, -, -⟩ := modeEvent1_line s d hon hm hly
      rw [hppu]
      exact h.mode (by omega) (iff_of_true hm (by omega)) h.backBuffer h.publishedFrame _ _

/-- The off-frame event changes the frames and its own deadline (50_ppu R906). -/
theorem PpuInv.offFrameEvent (h : PpuInv false s.ppu) (d : Nat) : PpuInv false (offFrameEvent s d).ppu := by
  obtain ⟨hppu, -, -⟩ := offFrameEvent_effects s d
  rw [hppu]
  exact { h with
    offDeadline := rfl, backBuffer := frame_uniform_wf _
    publishedFrame := fun f hf => Option.some.inj hf ▸ frame_uniform_wf _ }

theorem DisplayInv.runEvent (h : DisplayInv s) (k : EventKind) (d : Nat) : DisplayInv (runEvent s k d) := by
  have hp := displayInv_iff.mp h
  cases k with
  | ppu =>
    unfold Machine.runEvent
    dsimp only
    rw [displayInv_iff]
    cases hon : lcdOn s with
    | true =>
      rw [if_pos rfl, (modeEvent_ppuKeeps s d).lcdOn, hon]
      exact PpuInv.modeEvent hon (hon ▸ hp) d
    | false =>
      rw [if_neg (by decide), (offFrameEvent_ppuKeeps s d).lcdOn, hon]
      exact PpuInv.offFrameEvent (hon ▸ hp) d
  | timer => exact DisplayInv.congr h rfl (lcdOn_setIo s _ (by decide))
  | serial => exact (serialEvent_touches s).keep DisplayInv.bus h

theorem DisplayInv.act (hact : Act s t) (h : DisplayInv s) : DisplayInv t := by
  cases hact with
  | move hmove =>
    cases hmove with
    | write a v => exact (memWrite_touches s v a).keep DisplayInv.bus h
    | speed => exact DisplayInv.congr h rfl (lcdOn_setIo s _ (by decide))
    | regs | cycles | repeatByte | interrupts | halt | stop | illegal => exact { h with }
  | input =>
    unfold consumeInput
    split
    · exact DisplayInv.congr h rfl (lcdOn_setIo s _ (by decide))
    · exact h
  | acknowledge k => exact DisplayInv.congr h rfl (lcdOn_setIo s _ (by decide))
  | event k d => exact DisplayInv.runEvent h k d
  | wake | enable | passTime => exact { h with }

end

/-- Settles O10: the bus changes the display only by LCDC, an event by the equations of the mode machine. -/
theorem stepKeepsDisplayState : Obligations.StepKeepsDisplayState := by
  unfold Obligations.StepKeepsDisplayState
  exact fun s t hs h => (step_acts h).keep DisplayInv.act hs

end Sys2Proof.Proofs
end

section
/-! SUPPORT. The scheduler (60_exceptions R1101 to R1103): every event moves its own
deadline on, so the due events run out, and a step leaves none due. -/

namespace Sys2Proof.Proofs

open Sys2Proof.Machine

/-! ## The timer's deadline (60_exceptions R1150) -/

section
variable {s t : State}

theorem TimerInv.congr (h : TimerInv s) (ht : t.timer = s.timer) (htac : t.ioByte 0x07 = s.ioByte 0x07) :
    TimerInv t := by
  unfold TimerInv
  rw [ht, htac]
  exact h

theorem timerPeriod_pos (tac : Byte) : 0 < timerPeriod tac := by
  unfold timerPeriod
  split <;> decide

/-- While the timer does not run, no deadline is set and the base does not matter. -/
theorem TimerInv.writeTima (h : TimerInv s) (v : Byte) : TimerInv (writeTima s v) := by
  unfold Machine.writeTima
  dsimp only
  cases hrun : timerActive (s.ioByte 0x07) with
  | true => rfl
  | false =>
    have hnone (b : Nat) (v : Byte) : timerDeadline (s.ioByte 0x07) b v = none := by simp [timerDeadline, hrun]
    exact (h.trans (hnone ..)).trans (hnone ..).symm

theorem TimerInv.writeTac (v : Byte) : TimerInv (writeTac s v) := by
  have htac : (Machine.writeTac s v).ioByte 0x07 = v := ioByte_setIo_same ..
  unfold TimerInv
  rw [htac]
  rfl

theorem TimerInv.bus (htouch : BusTouch s t) (h : TimerInv s) : TimerInv t := by
  cases htouch with
  | io k v hk =>
    obtain ⟨hk, -, -⟩ := hk
    exact TimerInv.congr h rfl (ioByte_setIo_other s v hk.symm)
  | storage ht => exact TimerInv.congr h (by rw [ht]) (by rw [ht]; rfl)
  | sound k v hlo hhi =>
    exact TimerInv.congr h (by rw [writeSound_only]) (writeSound_ioByte_other s k v (by omega))
  | power v =>
    obtain ⟨io, apu, ht⟩ := writeNr52_only s v
    exact TimerInv.congr h (by rw [ht]) (writeNr52_ioByte_other s v (by decide))
  | lcdc v => exact TimerInv.congr h (by rw [writeLcdc_only]) (writeLcdc_ioByte_other s v (by decide))
  | tima v => exact TimerInv.writeTima h v
  | tac v => exact TimerInv.writeTac v
  | mapper | hdma | serial => exact TimerInv.congr h rfl rfl
  | div => exact h

/-- The overflow event sets the deadline R1150 gives: a timer with a deadline runs. -/
theorem TimerInv.timerEvent (h : TimerInv s) {d : Nat} (hd : s.timer.deadline = some d) : TimerInv (timerEvent s d) := by
  have hrun : timerActive (s.ioByte 0x07) = true := by
    by_contra hrun
    rw [h, timerDeadline, if_neg hrun] at hd
    cases hd
  have htac : (Machine.timerEvent s d).ioByte 0x07 = s.ioByte 0x07 := ioByte_setIo_other s _ (by decide)
  unfold TimerInv timerDeadline
  rw [htac, if_pos hrun]
  rfl

theorem TimerInv.touch (htouch : StepTouch s t) (h : TimerInv s) : TimerInv t := by
  cases htouch with
  | core ht => exact TimerInv.congr h (by rw [ht]) (by rw [ht]; rfl)
  | event hevent =>
    cases hevent with
    | bus hbus => exact TimerInv.bus hbus h
    | ppu | host => exact TimerInv.congr h rfl rfl
    | frameTick =>
      have hk := apuFrameTick_ppuKeeps s
      exact TimerInv.congr h hk.timer (hk.ioByte _ (by decide) (by decide) (by decide))
    | timer d hd => exact TimerInv.timerEvent h hd

/-- Before its deadline the running timer has not counted past 255. -/
theorem tima_lt_of_notDue (h : TimerInv s) (hdue : NoDeadlineDue s) (hrun : timerActive (s.ioByte 0x07) = true) :
    s.timer.timaBase.toNat + (s.counter - s.timer.base) / timerPeriod (s.ioByte 0x07) < 256 := by
  have hd : s.timer.deadline = some (s.timer.base + (256 - s.timer.timaBase.toNat) * timerPeriod (s.ioByte 0x07)) :=
    h.trans (if_pos hrun)
  have hlt := noDeadlineDue_iff.mp hdue .timer _ hd
  have hbase := s.timer.timaBase.isLt
  have hspan : (s.counter - s.timer.base) / timerPeriod (s.ioByte 0x07) < 256 - s.timer.timaBase.toNat := by
    rw [Nat.div_lt_iff_lt_mul (timerPeriod_pos _)]
    have : 0 < (256 - s.timer.timaBase.toNat) * timerPeriod (s.ioByte 0x07) :=
      Nat.mul_pos (by omega) (timerPeriod_pos _)
    omega
  omega

end

/-! ## The due events run out (60_exceptions R1102; log 18) -/

/-- How often an event at a deadline can still be due by `now`, if every event moves it on. -/
def dueCount (now : Nat) : Option Nat → Nat
  | none => 0
  | some d => now + 1 - d

/-- The sum over the three kinds. -/
def dueCounts (s : State) : Nat :=
  dueCount s.counter (deadlineOf s .ppu) + dueCount s.counter (deadlineOf s .timer) +
    dueCount s.counter (deadlineOf s .serial)

theorem dueCount_le (now : Nat) (o : Option Nat) : dueCount now o ≤ now + 1 := by
  cases o with
  | none => exact Nat.zero_le _
  | some d => exact Nat.sub_le ..

section
variable {s : State} {d : Nat}

theorem dueCount_lt {now : Nat} {o o' : Option Nat} (ho : o = some d) (hd : d ≤ now)
    (hnext : ∀ e, o' = some e → d < e) : dueCount now o' < dueCount now o := by
  subst ho
  cases o' with
  | none => exact Nat.sub_pos_of_lt (Nat.lt_succ_of_le hd)
  | some e =>
    have := hnext e rfl
    simp only [dueCount]
    omega

theorem speedFactor_pos (s : State) : 0 < speedFactor s := by
  unfold speedFactor
  split <;> decide

/-- A mode event moves the mode deadline on. -/
theorem modeEvent_deadline_lt (hon : lcdOn s = true) (d : Nat) :
    ∃ e, (modeEvent s d).ppu.modeDeadline = some e ∧ d < e := by
  have hspeed := speedFactor_pos s
  have hlater (n : Nat) (hn : 0 < n) : d < d + n * speedFactor s := Nat.lt_add_of_pos_right (Nat.mul_pos hn hspeed)
  cases hm : s.ppu.mode with
  | search =>
    rw [modeEvent_search d hm, modeEvent2_eq]
    exact ⟨_, rfl, hlater 172 (by decide)⟩
  | transfer =>
    obtain ⟨u, hu, ht⟩ := modeEvent3_eq s d
    refine ⟨_, ?_, hlater 204 (by decide)⟩
    rw [modeEvent_transfer d hm, ht]
    split
    · rw [hdmaBlock_only, hu]
    · rw [hu]
  | hblank =>
    rw [modeEvent_hblank d hm]
    by_cases hly : s.ppu.ly = 143
    · obtain ⟨hppu, -, -⟩ := modeEvent0_vblank s d hon hly
      exact ⟨_, by rw [hppu], hlater 456 (by decide)⟩
    · exact ⟨_, by rw [(modeEvent0_line s d hon hly).ppu], hlater 80 (by decide)⟩
  | vblank =>
    rw [modeEvent_vblank d hm]
    by_cases hly : s.ppu.ly = 153
    · exact ⟨_, by rw [(modeEvent1_top s d hon hly).ppu], hlater 80 (by decide)⟩
    · obtain ⟨hppu, -, -⟩ := modeEvent1_line s d hon hm hly
      exact ⟨_, by rw [hppu], hlater 456 (by decide)⟩

/-! The serial event's parts, through its two register stores. -/

theorem lcdOn_serialEvent (s : State) : lcdOn (serialEvent s) = lcdOn s :=
  (lcdOn_setIo _ _ (by decide)).trans ((lcdOn_setIo _ _ (by decide)).trans (lcdOn_setIo s _ (by decide)))

theorem serialEvent_only (s : State) :
    serialEvent s = { s with io := (serialEvent s).io, serialDeadline := none } := by
  unfold serialEvent State.setIo requestIrq
  rfl

/-- An event moves its own deadline on, or drops it. -/
theorem runEvent_deadline_later (k : EventKind) (d : Nat) : ∀ e, deadlineOf (runEvent s k d) k = some e → d < e := by
  intro e he
  cases k with
  | ppu =>
    cases hon : lcdOn s with
    | true =>
      obtain ⟨e', he', hlt⟩ := modeEvent_deadline_lt hon d
      have hrun : runEvent s .ppu d = modeEvent s d := if_pos hon
      have hon' := (modeEvent_ppuKeeps s d).lcdOn.trans hon
      rw [hrun, deadlineOf, ppuDeadline, if_pos hon', he'] at he
      exact Option.some.inj he ▸ hlt
    | false =>
      obtain ⟨hppu, -, -⟩ := offFrameEvent_effects s d
      have hrun : runEvent s .ppu d = offFrameEvent s d := if_neg (by simp [hon])
      have hoff' := (offFrameEvent_ppuKeeps s d).lcdOn.trans hon
      rw [hrun, deadlineOf, ppuDeadline, if_neg (by simp [hoff']), hppu] at he
      exact Option.some.inj he ▸ Nat.lt_add_of_pos_right (Nat.mul_pos (by decide) (speedFactor_pos s))
  | timer =>
    have htma := (s.ioByte 0x06).isLt
    exact Option.some.inj he ▸ Nat.lt_add_of_pos_right (Nat.mul_pos (by omega) (timerPeriod_pos _))
  | serial => cases he

/-- And leaves the other two as they are. -/
theorem runEvent_deadline_other {k j : EventKind} (h : j ≠ k) (d : Nat) :
    deadlineOf (runEvent s k d) j = deadlineOf s j := by
  cases k with
  | ppu =>
    have hk : PpuEventKeeps s (runEvent s .ppu d) := by
      unfold runEvent
      dsimp only
      split
      · exact modeEvent_ppuKeeps s d
      · exact offFrameEvent_ppuKeeps s d
    cases j with
    | ppu => exact absurd rfl h
    | timer => exact congrArg Timer.deadline hk.timer
    | serial => exact hk.serialDeadline
  | timer =>
    cases j with
    | ppu =>
      have hon : lcdOn (timerEvent s d) = lcdOn s := lcdOn_setIo s _ (by decide)
      simp only [deadlineOf, ppuDeadline, runEvent, hon]
      rfl
    | timer => exact absurd rfl h
    | serial => rfl
  | serial =>
    cases j with
    | ppu =>
      have hon : lcdOn (serialEvent s) = lcdOn s := lcdOn_serialEvent s
      rw [deadlineOf, ppuDeadline, runEvent, hon, serialEvent_only]
      rfl
    | timer =>
      rw [deadlineOf, runEvent, serialEvent_only]
      rfl
    | serial => exact absurd rfl h

/-- So a due event lowers the count. -/
theorem dueCounts_runEvent {k : EventKind} (hd : deadlineOf s k = some d) (hdue : d ≤ s.counter) :
    dueCounts (runEvent s k d) < dueCounts s := by
  have hown := dueCount_lt hd hdue (runEvent_deadline_later (s := s) k d)
  have hother (j : EventKind) (hj : j ≠ k) := runEvent_deadline_other (s := s) hj d
  unfold dueCounts
  rw [(runEvent_eventKeeps s k d).counter]
  cases k with
  | ppu => rw [hother .timer (by decide), hother .serial (by decide)]; omega
  | timer => rw [hother .ppu (by decide), hother .serial (by decide)]; omega
  | serial => rw [hother .ppu (by decide), hother .timer (by decide)]; omega

theorem noDeadlineDue_processDue (n : Nat) (s : State) (hn : dueCounts s ≤ n) : NoDeadlineDue (processDue n s) := by
  induction n generalizing s with
  | zero =>
    refine noDeadlineDue_iff.mpr fun k d hd => ?_
    have hcount (j : EventKind) : dueCount s.counter (deadlineOf s j) = 0 := by
      unfold dueCounts at hn
      cases j <;> omega
    have := hcount k
    rw [show deadlineOf s k = some d from hd] at this
    exact Nat.lt_of_succ_le (Nat.sub_eq_zero_iff_le.mp this)
  | succ n ih =>
    unfold processDue
    split
    next d k hnext =>
      split
      next hdue =>
        have := dueCounts_runEvent (deadlineOf_nextScheduled hnext) hdue
        exact ih _ (by omega)
      next hlater =>
        refine noDeadlineDue_iff.mpr fun j e he => ?_
        obtain ⟨d', j', hnext', hle⟩ := nextScheduled_le he
        rw [hnext] at hnext'
        cases hnext'
        omega
    next hnone =>
      refine noDeadlineDue_iff.mpr fun j e he => ?_
      obtain ⟨d', j', hnext', -⟩ := nextScheduled_le he
      rw [hnone] at hnext'
      cases hnext'

/-- The model's bound is enough: no event is due after `processEvents`. -/
theorem noDeadlineDue_processEvents (s : State) : NoDeadlineDue (processEvents s) := by
  refine noDeadlineDue_processDue _ s ?_
  have hppu := dueCount_le s.counter (deadlineOf s .ppu)
  have htimer := dueCount_le s.counter (deadlineOf s .timer)
  have hserial := dueCount_le s.counter (deadlineOf s .serial)
  unfold dueCounts eventBound
  omega

end

/-! ## After a step nothing is due -/

section
variable {s t : State}

theorem NoDeadlineDue.interruptCheck (h : NoDeadlineDue s) : NoDeadlineDue (interruptCheck s) := by
  unfold Machine.interruptCheck
  split
  · exact h
  · dsimp only
    split
    · exact noDeadlineDue_processEvents _
    · exact h

theorem noDeadlineDue_advanceToEvent (s : State) (h : NoDeadlineDue s) : NoDeadlineDue (advanceToEvent s) := by
  unfold advanceToEvent
  split
  · exact noDeadlineDue_processEvents _
  · exact h

theorem NoDeadlineDue.haltedStep (h : NoDeadlineDue s) : NoDeadlineDue (haltedStep s) := by
  unfold Machine.haltedStep
  split
  · exact NoDeadlineDue.interruptCheck (noDeadlineDue_advanceToEvent s h)
  · exact NoDeadlineDue.interruptCheck h

end

end Sys2Proof.Proofs
end

section
/-! SUPPORT and proofs of O5 and O11. What records a fault, what a parked core's step does, and that no event is due
after a step. -/

namespace Sys2Proof.Proofs

open Sys2Proof.Machine

/-! ## Only an undefined opcode records a fault (60_exceptions R1130) -/

/-- What says whether the run goes on: the fault and RUNNING. -/
def runPart (s : State) : Option IllegalOpcode × Bool := (s.fault, s.running)

section
variable (s : State)

@[simp] theorem memWrite_runPart (a : Word) (v : Byte) : runPart (memWrite s a v) = runPart s := by
  simp [runPart]

@[simp] theorem memWrite16_runPart (a v : Word) : runPart (memWrite16 s a v) = runPart s :=
  (memWrite_runPart ..).trans (memWrite_runPart ..)

@[simp] theorem push16_runPart (v : Word) : runPart (push16 s v) = runPart s :=
  (memWrite_runPart ..).trans (memWrite_runPart ..)

theorem opnd8_write_runPart (o : Opnd8) (v : Byte) : runPart (o.write v s) = runPart s := by
  cases o with
  | reg r => rfl
  | atHL => exact memWrite_runPart ..
  | imm n => rfl

theorem haltEffect_runPart : runPart (haltEffect s) = runPart s := by
  unfold haltEffect
  repeat' split
  all_goals rfl

theorem stopEffect_runPart : runPart (stopEffect s) = runPart s := by
  unfold stopEffect
  split <;> rfl

end

section
variable {s t : State}

/-- What an instruction leaves is read off its one next state `u`. -/
theorem runPart_of_next {o : Host.Outcome State Fault Refusal} {u : State} (hu : o = .next u) (h : o = .next t)
    (hkept : runPart u = runPart s) : runPart t = runPart s := by
  obtain rfl := Host.Outcome.next.inj (hu.symm.trans h)
  exact hkept

theorem instruction_runPart {effect : State → State} {len cost : Nat} (h : instruction len cost effect s = .next t)
    (he : ∀ u, runPart (effect u) = runPart u) : runPart t = runPart s := by
  obtain rfl := Host.Outcome.next.inj h
  exact he (s.advance len)

theorem conditional_runPart {effect : State → State} {len taken notTaken : Nat} {cond : Bool}
    (h : conditional len taken notTaken cond effect s = .next t) (he : ∀ u, runPart (effect u) = runPart u) :
    runPart t = runPart s := by
  cases cond with
  | true => exact instruction_runPart h he
  | false => exact instruction_runPart h fun _ => rfl

theorem opLd8_runPart {len cost : Nat} {dst src : Opnd8} (h : opLd8 len cost dst src s = .next t) :
    runPart t = runPart s :=
  instruction_runPart h fun _ => opnd8_write_runPart ..

theorem opRes_runPart {cost : Nat} {b : BitIx} {dst : Opnd8} (h : opRes cost b dst s = .next t) : runPart t = runPart s :=
  instruction_runPart h fun _ => opnd8_write_runPart ..

theorem opSet_runPart {cost : Nat} {b : BitIx} {dst : Opnd8} (h : opSet cost b dst s = .next t) : runPart t = runPart s :=
  instruction_runPart h fun _ => opnd8_write_runPart ..

theorem opStoreA_runPart {len cost : Nat} {m : MemForm} (h : opStoreA len cost m s = .next t) : runPart t = runPart s :=
  instruction_runPart h fun _ => memWrite_runPart ..

theorem opStoreAStep_runPart {k : Word} (h : opStoreAStep k s = .next t) : runPart t = runPart s :=
  instruction_runPart h fun _ => memWrite_runPart ..

theorem opStoreSp_runPart {nn : Word} (h : opStoreSp nn s = .next t) : runPart t = runPart s :=
  instruction_runPart h fun _ => memWrite16_runPart ..

theorem opPush_runPart {r : Rp2} (h : opPush r s = .next t) : runPart t = runPart s :=
  instruction_runPart h fun _ => push16_runPart ..

theorem opCall_runPart {nn : Word} (h : opCall nn s = .next t) : runPart t = runPart s :=
  instruction_runPart h fun _ => push16_runPart ..

theorem opRst_runPart {v : RstVec} (h : opRst v s = .next t) : runPart t = runPart s :=
  instruction_runPart h fun _ => push16_runPart ..

theorem opEi_runPart (h : opEi s = .next t) : runPart t = runPart s :=
  instruction_runPart h fun u => by cases hime : u.ime <;> simp [runPart]

theorem opStepRp_runPart {k : Word} {r : Rp} (h : opStepRp k r s = .next t) : runPart t = runPart s :=
  instruction_runPart h fun _ => rfl

theorem opCallCC_runPart {cc : Cond} {nn : Word} (h : opCallCC cc nn s = .next t) : runPart t = runPart s :=
  conditional_runPart h fun _ => push16_runPart ..

theorem opInc8_runPart {cost : Nat} {dst : Opnd8} (h : opInc8 cost dst s = .next t) : runPart t = runPart s :=
  instruction_runPart h fun _ => opnd8_write_runPart ..

theorem opDec8_runPart {cost : Nat} {dst : Opnd8} (h : opDec8 cost dst s = .next t) : runPart t = runPart s :=
  instruction_runPart h fun _ => opnd8_write_runPart ..

theorem opRot_runPart {cost : Nat} {op : RotOp} {dst : Opnd8} (h : opRot cost op dst s = .next t) :
    runPart t = runPart s :=
  instruction_runPart h fun _ => opnd8_write_runPart ..

theorem opCbByte_runPart {c : Byte} (h : opCbByte c s = .next t) : runPart t = runPart s := by
  rcases hx : field c 7 6 with _ | _ | _ | n <;> simp only [opCbByte, hx] at h
  · exact instruction_runPart h fun _ => opnd8_write_runPart ..
  · exact instruction_runPart h fun _ => rfl
  · exact instruction_runPart h fun _ => opnd8_write_runPart ..
  · exact instruction_runPart h fun _ => opnd8_write_runPart ..

theorem opIllegal_raises {op : IllegalOp} (h : opIllegal op s = .next t) : ∃ op, t = raiseIllegal op s :=
  ⟨op.byte, (Host.Outcome.next.inj h).symm⟩

/-- An instruction leaves the fault and RUNNING as they are, or is an undefined opcode's and changes them alone.  The
forms that store go by their write, the conditional ones by their two branches. -/
theorem exec_runPart {i : Instr} (h : exec i s = .next t) : runPart t = runPart s ∨ ∃ op, t = raiseIllegal op s := by
  cases i with
  | illegal_d3 | illegal_db | illegal_dd | illegal_e3 | illegal_e4 | illegal_eb | illegal_ec | illegal_ed | illegal_f4
    | illegal_fc | illegal_fd => exact .inr (opIllegal_raises h)
  | ld_atBC_a | ld_atDE_a | ldh_atA8_a | ldh_atC_a | ld_atA16_a => exact .inl (opStoreA_runPart h)
  | inc_atHL => exact .inl (opInc8_runPart h)
  | dec_atHL => exact .inl (opDec8_runPart h)
  | rlc_atHL | rrc_atHL | rl_atHL | rr_atHL | sla_atHL | sra_atHL | swap_atHL | srl_atHL => exact .inl (opRot_runPart h)
  | ld_atHL_d8 | ld_atHL_b | ld_atHL_c | ld_atHL_d | ld_atHL_e | ld_atHL_h | ld_atHL_l | ld_atHL_a =>
    exact .inl (opLd8_runPart h)
  | res_0_atHL | res_1_atHL | res_2_atHL | res_3_atHL | res_4_atHL | res_5_atHL | res_6_atHL | res_7_atHL =>
    exact .inl (opRes_runPart h)
  | set_0_atHL | set_1_atHL | set_2_atHL | set_3_atHL | set_4_atHL | set_5_atHL | set_6_atHL | set_7_atHL =>
    exact .inl (opSet_runPart h)
  | ld_atHLi_a | ld_atHLd_a => exact .inl (opStoreAStep_runPart h)
  | ld_atA16_sp => exact .inl (opStoreSp_runPart h)
  | push_bc | push_de | push_hl | push_af => exact .inl (opPush_runPart h)
  | call_a16 => exact .inl (opCall_runPart h)
  | rst_00h | rst_08h | rst_10h | rst_18h | rst_20h | rst_28h | rst_30h | rst_38h => exact .inl (opRst_runPart h)
  | inc_bc | dec_bc | inc_de | dec_de | inc_hl | dec_hl | inc_sp | dec_sp => exact .inl (opStepRp_runPart h)
  | halt => exact .inl (instruction_runPart h haltEffect_runPart)
  | stop => exact .inl (instruction_runPart h stopEffect_runPart)
  | ei => exact .inl (opEi_runPart h)
  | jp_nz_a16 | jp_z_a16 | jp_nc_a16 | jp_c_a16 | jr_nz_e8 | jr_z_e8 | jr_nc_e8 | jr_c_e8 | ret_nz | ret_z | ret_nc
    | ret_c => exact .inl (conditional_runPart h (fun _ => rfl))
  | call_nz_a16 | call_z_a16 | call_nc_a16 | call_c_a16 => exact .inl (opCallCC_runPart h)
  | prefix_cb => exact .inl (opCbByte_runPart h)
  -- The rest change registers, the counter, IME and IME_ARMED only.
  | _ => exact .inl (runPart_of_next rfl h rfl)

end

/-! ## What a step does -/

section
variable {s t : State}

theorem step_eq_stopped (hfault : s.fault = none) (hrun : s.running = true) (hstop : (consumeInput s).stopped = true) :
    step s = .next (consumeInput s) := by
  simp [step, hfault, hrun, hstop]

theorem step_eq_halted (hfault : s.fault = none) (hrun : s.running = true) (hstop : (consumeInput s).stopped = false)
    (hhalt : (consumeInput s).halted = true) : step s = .next (haltedStep (consumeInput s)) := by
  simp [step, hfault, hrun, hstop, hhalt]

theorem haltedStep_pending (h : pendingIrqs s ≠ 0) : haltedStep s = interruptCheck s := by
  rw [haltedStep, if_neg h]

theorem haltedStep_waiting (h : pendingIrqs s = 0) : haltedStep s = interruptCheck (advanceToEvent s) := by
  simp [haltedStep, h]

theorem advanceToEvent_eq {d : Nat} {k : EventKind} (h : nextScheduled s = some (d, k)) :
    advanceToEvent s = processEvents { s with counter := max s.counter d } := by
  simp [advanceToEvent, h]

theorem nextScheduled_consumeInput (s : State) : nextScheduled (consumeInput s) = nextScheduled s := by
  have hon : lcdOn (requestIrq s 4) = lcdOn s := lcdOn_setIo s _ (by decide)
  unfold consumeInput
  split
  · unfold nextScheduled ppuDeadline
    rw [show lcdOn { requestIrq s 4 with host := { s.host with inputChanged := false }, stopped := false } = _ from hon]
    rfl
  · rfl

theorem counter_consumeInput (s : State) : (consumeInput s).counter = s.counter := by
  unfold consumeInput
  split <;> rfl

theorem NoDeadlineDue.afterInstruction {armed : Bool}
    (h : t.fault ≠ none → NoDeadlineDue t) : NoDeadlineDue (afterInstruction armed t) := by
  unfold Machine.afterInstruction
  split
  next hfault => exact h (Option.isSome_iff_ne_none.mp hfault)
  next => exact NoDeadlineDue.interruptCheck (noDeadlineDue_processEvents _)

/-- An undefined opcode moves no deadline and not the counter. -/
theorem NoDeadlineDue.exec {i : Instr} (h : NoDeadlineDue s) (hfault : s.fault = none) (hexec : exec i s = .next t)
    (hraised : t.fault ≠ none) : NoDeadlineDue t := by
  obtain hkept | ⟨op, rfl⟩ := exec_runPart hexec
  · exact absurd ((congrArg Prod.fst hkept).trans hfault) hraised
  · exact h

theorem NoDeadlineDue.instructionStep (h : NoDeadlineDue s) (hfault : s.fault = none)
    (hstep : instructionStep s = .next t) : NoDeadlineDue t := by
  unfold Machine.instructionStep at hstep
  split at hstep
  next => cases hstep
  next i _ _ =>
    obtain ⟨u, hu⟩ := exec_next i s
    rw [hu] at hstep
    obtain rfl := Host.Outcome.next.inj hstep
    exact NoDeadlineDue.afterInstruction (NoDeadlineDue.exec h hfault hu)

theorem NoDeadlineDue.step (h : NoDeadlineDue s) (hstep : step s = .next t) : NoDeadlineDue t := by
  have hconsumed : NoDeadlineDue (consumeInput s) := by
    intro d k
    rw [nextScheduled_consumeInput, counter_consumeInput]
    exact h d k
  unfold Machine.step at hstep
  split at hstep
  next => exact Host.Outcome.next.inj hstep ▸ h
  next hgo =>
    have hfault : (consumeInput s).fault = none := by
      have : s.fault = none := by simp_all
      rw [← this]
      unfold consumeInput
      split <;> rfl
    dsimp only at hstep
    split at hstep
    · exact Host.Outcome.next.inj hstep ▸ hconsumed
    · split at hstep
      · exact Host.Outcome.next.inj hstep ▸ NoDeadlineDue.haltedStep hconsumed
      · exact NoDeadlineDue.instructionStep hconsumed hfault hstep

end

/-- Settles O11: every event moves its deadline on, so the bound on their number suffices; the timer's deadline is kept by
every touch of the step. -/
theorem stepLeavesNoDeadlineDue : Obligations.StepLeavesNoDeadlineDue :=
  ⟨fun _ _ htimer hdue hstep =>
    ⟨(step_touches hstep).keep TimerInv.touch htimer, NoDeadlineDue.step hdue hstep⟩,
   fun _ htimer hdue hrun => tima_lt_of_notDue htimer hdue hrun⟩

/-- Settles O5. -/
theorem parkedStepsWait : Obligations.ParkedStepsWait := by
  unfold Obligations.ParkedStepsWait
  rintro s _ rfl
  refine ⟨fun h => ?ended, step_eq_stopped, fun hfault hrun hstop hhalt => ⟨fun hpending => ?pending, fun hnone d k hd => ?waiting⟩⟩
  case ended => obtain h | h := h <;> simp [step, h, Option.isSome_iff_ne_none]
  case pending => rw [step_eq_halted hfault hrun hstop hhalt, haltedStep_pending hpending]
  case waiting => rw [step_eq_halted hfault hrun hstop hhalt, haltedStep_waiting hnone, advanceToEvent_eq hd]

end Sys2Proof.Proofs
end

section
/-! SUPPORT and proofs of O6 and O14. The counter of a halted core, and the invariants at reset. -/

namespace Sys2Proof.Proofs

open Sys2Proof.Machine

/-! ## Halted time (60_exceptions R1103) -/

section
variable {s t : State}

theorem fixedPart_acts (h : Acts s t) : FixedPart s t :=
  h.keep (P := FixedPart s) (fun hact hs => hs.trans (fixedPart_act hact)) (.refl s)

theorem consumeInput_noInput (h : s.host.inputChanged = false) : consumeInput s = s := by simp [consumeInput, h]

/-- A machine that meets the display invariant has the PPU's deadline, so an event. -/
theorem nextScheduled_of_displayInv (h : DisplayInv s) : ∃ d k, nextScheduled s = some (d, k) := by
  have hsome : (ppuDeadline s).isSome = true := by
    unfold ppuDeadline
    cases hon : lcdOn s with
    | true => exact h.modeDeadline.trans hon
    | false => exact h.offDeadline.trans (by rw [hon]; rfl)
  obtain ⟨d, hd⟩ := Option.isSome_iff_exists.mp hsome
  obtain ⟨e, k, hnext, -⟩ := nextScheduled_le (s := s) (k := .ppu) (d := d) hd
  exact ⟨e, k, hnext⟩

end

/-- Settles O6: the event is later than the counter, as none is due, and time moves to it. -/
theorem haltedTimeAdvances : Obligations.HaltedTimeAdvances := by
  unfold Obligations.HaltedTimeAdvances
  intro s t hdisplay hdue hfault hrun hinput hstop hhalt hpending hstep
  have hu := consumeInput_noInput hinput
  obtain ⟨d, k, hnext⟩ := nextScheduled_of_displayInv hdisplay
  have hlater : s.counter < d := hdue d k hnext
  have ht : t = interruptCheck (processEvents { s with counter := max s.counter d }) := by
    rw [step_eq_halted hfault hrun (by rw [hu, hstop]) (by rw [hu, hhalt]), hu, haltedStep_waiting hpending,
      advanceToEvent_eq hnext] at hstep
    exact (Host.Outcome.next.inj hstep).symm
  have hcounter : max s.counter d ≤ t.counter := by
    rw [ht]
    exact (fixedPart_acts ((processEvents_acts { s with counter := max s.counter d }).trans (interruptCheck_acts _))).counter
  exact ⟨⟨d, k, hnext, (Nat.le_max_right ..).trans hcounter⟩, by omega⟩

/-! ## Reset (70_reset R1201) -/

section
variable (p : Params) (ram : InitRam) (gbc cgb : Bool) (cart : Cartridge) (rom : Memory)

theorem resetIo_wf : (resetIo cgb).wf = true := by cases cgb <;> decide

theorem bgPal_atReset_wf : (State.atReset p ram gbc cgb cart rom).bgPal.wf = true := by
  change Memory.wf ⟨0xFF, (List.range 32).map fun k => (2 * k + 1, 0x7F)⟩ = true
  decide

theorem memoryInv_atReset (hrom : rom.wf = true) (hcram : ram.cram.wf = true) (hvram : ram.vram.wf = true)
    (hwram : ram.wram.wf = true) (hoam : ram.oam.wf = true) (hwave : ram.wave.wf = true) (hhram : ram.hram.wf = true)
    (hobj : ram.objPal.wf = true) : MemoryInv (State.atReset p ram gbc cgb cart rom) :=
  ⟨hrom, hcram, hvram, hwram, hoam, resetIo_wf cgb, hwave, hhram, bgPal_atReset_wf p ram gbc cgb cart rom, hobj⟩

theorem cpuInv_atReset : CpuInv (State.atReset p ram gbc cgb cart rom) := by
  refine ⟨?_, fun h => absurd rfl h, by simp [State.atReset]⟩
  change (Regs.atReset cgb).f &&& 0x0F = 0
  cases cgb <;> decide

theorem lcdOn_atReset : lcdOn (State.atReset p ram gbc cgb cart rom) = true := by
  unfold lcdOn
  rw [(ioByte_atReset p ram gbc cgb cart rom).2.2.2.2.1]
  decide

theorem displayInv_atReset : DisplayInv (State.atReset p ram gbc cgb cart rom) := by
  rw [displayInv_iff, lcdOn_atReset]
  exact ⟨rfl, rfl, Nat.zero_le _, ⟨nofun, nofun⟩, nofun, frame_uniform_wf _, nofun⟩

theorem timerInv_atReset : TimerInv (State.atReset p ram gbc cgb cart rom) := by
  unfold TimerInv
  rw [(ioByte_atReset p ram gbc cgb cart rom).2.2.1]
  rfl

/-- The only event scheduled is the end of the first mode 2, at cycle 80. -/
theorem noDeadlineDue_atReset : NoDeadlineDue (State.atReset p ram gbc cgb cart rom) := by
  refine noDeadlineDue_iff.mpr fun k d hd => ?_
  cases k with
  | ppu =>
    rw [deadlineOf, ppuDeadline, lcdOn_atReset] at hd
    exact Option.some.inj hd ▸ (by decide : 0 < 80)
  | timer | serial => cases hd

theorem soundInv_atReset : SoundInv (State.atReset p ram gbc cgb cart rom) := by
  have hio : ∀ k, (State.atReset p ram gbc cgb cart rom).ioByte k = (resetIo cgb).read k := fun _ => rfl
  have hreads : envDacOn ((resetIo cgb).read 0x12) = true ∧ bit ((resetIo cgb).read 0x26) 7 = true ∧
      bit ((resetIo cgb).read 0x14) 6 = false ∧ bit ((resetIo cgb).read 0x19) 6 = false ∧
      bit ((resetIo cgb).read 0x1E) 6 = false ∧ bit ((resetIo cgb).read 0x23) 6 = false := by
    cases cgb <;> decide
  obtain ⟨hdac, hon, h14, h19, h1e, h23⟩ := hreads
  have hsilent (full : Nat) (dacOn power : Bool) (nrx4 : Byte) (h : bit nrx4 6 = false) :
      ChannelInv Channel.silent full dacOn power nrx4 :=
    ⟨Nat.zero_le _, le_rfl, zero_lt_one, nofun, nofun, h.symm⟩
  refine ⟨?ch1, hsilent _ _ _ _ h19, hsilent _ _ _ _ h1e, hsilent _ _ _ _ h23, ⟨le_rfl, Nat.zero_le _⟩,
    ⟨Nat.zero_le _, Nat.zero_le _⟩, ⟨Nat.zero_le _, Nat.zero_le _⟩, Nat.zero_le _, Nat.zero_le _⟩
  exact ⟨Nat.zero_le _, le_rfl, zero_lt_one, fun _ => hdac, fun _ => hon, h14.symm⟩

theorem rtc_zero_wf : Rtc.wf ⟨0, 0, 0, 0, 0⟩ := (rtc_wf_iff _).mpr ⟨rfl, rfl, rfl, rfl, rfl⟩

theorem mapperInv_atReset : MapperInv (State.atReset p ram gbc cgb cart rom) := by
  refine ⟨?banks, rtc_zero_wf, rtc_zero_wf, Nat.zero_le _, nofun, BitVec.zero_and, BitVec.zero_and⟩
  change banksInRange cart.kind Mapper.atReset
  cases cart.kind <;> simp [banksInRange, Mapper.atReset]

end

/-- Settles O14. -/
theorem resetMeetsEveryInvariant : Obligations.ResetMeetsEveryInvariant := by
  unfold Obligations.ResetMeetsEveryInvariant
  have hall (p : Params) (ram : InitRam) (gbc cgb : Bool) (cart : Cartridge) (rom : Memory) :
      CpuInv (State.atReset p ram gbc cgb cart rom) ∧ DisplayInv (State.atReset p ram gbc cgb cart rom) ∧
      TimerInv (State.atReset p ram gbc cgb cart rom) ∧ NoDeadlineDue (State.atReset p ram gbc cgb cart rom) ∧
      SoundInv (State.atReset p ram gbc cgb cart rom) ∧ MapperInv (State.atReset p ram gbc cgb cart rom) :=
    ⟨cpuInv_atReset .., displayInv_atReset .., timerInv_atReset .., noDeadlineDue_atReset p ram gbc cgb cart rom, soundInv_atReset ..,
      mapperInv_atReset ..⟩
  refine ⟨?_, memoryInv_atReset _ _ _ _ _ _ rfl rfl rfl rfl rfl rfl rfl rfl, hall ..⟩
  rintro p ram gbc cgb cart rom _ hrom hcram hvram hwram hoam hwave hhram hobj rfl
  exact ⟨memoryInv_atReset p ram gbc cgb cart rom hrom hcram hvram hwram hoam hwave hhram hobj, hall ..⟩

end Sys2Proof.Proofs
end

section
/-! SUPPORT and proof of O12. The sound channels (10_state R91, 55_apu R1011 to R1040): what each operation on a channel,
an envelope and the sweep keeps, and then what a bus write and a frame tick keep of the APU. -/

namespace Sys2Proof.Proofs

open Sys2Proof.Machine

/-! ## A channel -/

theorem frac_range (q : Rat) : 0 ≤ frac q ∧ frac q < 1 := ⟨Int.fract_nonneg q, Int.fract_lt_one q⟩

section
variable {ch : Channel} {full : Nat} {dacOn power : Bool} {nrx4 : Byte}

theorem ChannelInv.withLength (h : ChannelInv ch full dacOn power nrx4) {n : Nat} (hn : n ≤ full) :
    ChannelInv { ch with length := n } full dacOn power nrx4 := { h with length := hn }

theorem ChannelInv.withPhase (h : ChannelInv ch full dacOn power nrx4) (q : Rat) :
    ChannelInv { ch with phase := frac q } full dacOn power nrx4 :=
  { h with phaseLow := (frac_range q).1, phaseHigh := (frac_range q).2 }

/-- Whatever the DAC was, the write leaves the channel enabled only with the DAC on. -/
theorem ChannelInv.afterDac (h : ChannelInv ch full dacOn power nrx4) (on : Bool) :
    ChannelInv (ch.afterDac on) full on power nrx4 := by
  refine { h with dac := fun hen => ?_, power := fun hen => ?_ }
  · exact ((Bool.and_eq_true _ _).mp hen).2
  · exact h.power ((Bool.and_eq_true _ _).mp hen).1

theorem ChannelInv.withLengthEnable (h : ChannelInv ch full dacOn power nrx4) (v : Byte) :
    ChannelInv (ch.withLengthEnable v) full dacOn power v := { h with mirror := rfl }

theorem ChannelInv.stopped (h : ChannelInv ch full dacOn power nrx4) {on : Bool} (hon : on = true → ch.enabled = true) :
    ChannelInv { ch with enabled := on } full dacOn power nrx4 :=
  { h with dac := fun hen => h.dac (hon hen), power := fun hen => h.power (hon hen) }

theorem ChannelInv.trigger (h : ChannelInv ch full dacOn true nrx4) :
    ChannelInv (triggerChannel ch dacOn full) full dacOn true nrx4 := by
  refine ⟨?length, le_rfl, zero_lt_one, id, fun _ => rfl, h.mirror⟩
  have := h.length
  simp only [triggerChannel]
  split <;> omega

theorem ChannelInv.lengthTick (h : ChannelInv ch full dacOn power nrx4) :
    ChannelInv ch.lengthTick full dacOn power nrx4 := by
  unfold Channel.lengthTick
  split
  · exact ChannelInv.stopped (ChannelInv.withLength h ((Nat.sub_le ..).trans h.length)) fun hon => ((Bool.and_eq_true _ _).mp hon).1
  · exact h

/-- A powered-off channel meets the invariant of any registers with length enable clear. -/
theorem ChannelInv.powerOff (h : ChannelInv ch full dacOn power nrx4) {on pw : Bool} {v : Byte} (hv : bit v 6 = false) :
    ChannelInv ch.powerOff full on pw v :=
  ⟨Nat.zero_le _, h.phaseLow, h.phaseHigh, nofun, nofun, hv.symm⟩

end

/-! ## An envelope and a frequency -/

theorem field_le (v : Byte) (n : Nat) {hi lo : Nat} (h : 2 ^ (hi + 1 - lo) = n + 1) : field v hi lo ≤ n := by
  unfold field
  rw [h]
  exact Nat.le_of_lt_succ (Nat.mod_lt _ n.succ_pos)

theorem triggerEnvelope_inv (nrx2 : Byte) : EnvelopeInv (triggerEnvelope nrx2) :=
  ⟨field_le nrx2 15 rfl, Nat.zero_le _⟩

theorem EnvelopeInv.tick {e : Envelope} (h : EnvelopeInv e) (on : Bool) (nrx2 : Byte) : EnvelopeInv (e.tick on nrx2) := by
  have hperiod : field nrx2 2 0 ≤ 7 := field_le nrx2 7 rfl
  have := h.volume
  unfold Envelope.tick
  dsimp only
  split
  · split
    · refine ⟨?_, Nat.zero_le _⟩
      dsimp only
      repeat' split
      all_goals omega
    · exact ⟨h.volume, by simp only; omega⟩
  · exact h

theorem freqOf_le (nrx3 nrx4 : Byte) : freqOf nrx3 nrx4 ≤ 2047 := by
  have := nrx3.isLt
  rw [freqOf_eq]
  omega

/-! ## The APU over a register file -/

/-- `SoundInv` over the bytes `r` of the register file. -/
structure ApuInv (a : Apu) (r : Nat → Byte) : Prop where
  ch1 : ChannelInv a.ch1 64 (envDacOn (r 0x12)) (bit (r 0x26) 7) (r 0x14)
  ch2 : ChannelInv a.ch2 64 (envDacOn (r 0x17)) (bit (r 0x26) 7) (r 0x19)
  ch3 : ChannelInv a.ch3 256 (waveDacOn (r 0x1A)) (bit (r 0x26) 7) (r 0x1E)
  ch4 : ChannelInv a.ch4 64 (envDacOn (r 0x21)) (bit (r 0x26) 7) (r 0x23)
  env1 : EnvelopeInv a.env1
  env2 : EnvelopeInv a.env2
  env4 : EnvelopeInv a.env4
  shadowFreq : a.shadowFreq ≤ 2047
  sweepTimer : a.sweepTimer ≤ 7

theorem soundInv_iff {s : State} : SoundInv s ↔ ApuInv s.apu s.ioByte :=
  ⟨fun h => ⟨h.ch1, h.ch2, h.ch3, h.ch4, h.env1, h.env2, h.env4, h.shadowFreq, h.sweepTimer⟩,
    fun h => ⟨h.ch1, h.ch2, h.ch3, h.ch4, h.env1, h.env2, h.env4, h.shadowFreq, h.sweepTimer⟩⟩

/-- The registers the invariant reads. -/
def channelRegs : List Nat := [0x12, 0x14, 0x17, 0x19, 0x1A, 0x1E, 0x21, 0x23, 0x26]

theorem ApuInv.congr {a : Apu} {r r' : Nat → Byte} (h : ApuInv a r) (hr : ∀ j ∈ channelRegs, r' j = r j) :
    ApuInv a r' := by
  simp only [channelRegs, List.forall_mem_cons] at hr
  obtain ⟨h12, h14, h17, h19, h1a, h1e, h21, h23, h26, -⟩ := hr
  refine { h with ch1 := ?ch1, ch2 := ?ch2, ch3 := ?ch3, ch4 := ?ch4 }
  case ch1 => rw [h12, h26, h14]; exact h.ch1
  case ch2 => rw [h17, h26, h19]; exact h.ch2
  case ch3 => rw [h1a, h26, h1e]; exact h.ch3
  case ch4 => rw [h21, h26, h23]; exact h.ch4

theorem SoundInv.congr {s t : State} (h : SoundInv s) (happ : t.apu = s.apu)
    (hr : ∀ j ∈ channelRegs, t.ioByte j = s.ioByte j) : SoundInv t :=
  soundInv_iff.mpr (happ ▸ ApuInv.congr (soundInv_iff.mp h) hr)

/-- The register file `r` with `v` stored at `k`. -/
def storedReg (r : Nat → Byte) (k : Nat) (v : Byte) : Nat → Byte := fun j => bif j.beq k then v else r j

theorem ioByte_setIo_eq (s : State) (k : Nat) (v : Byte) : (s.setIo k v).ioByte = storedReg s.ioByte k v := by
  funext j
  by_cases hj : j = k
  · subst hj
    simp [storedReg, ioByte_setIo_same]
  · have hne : j.beq k = false := Bool.eq_false_iff.mpr (by simpa using hj)
    simp [storedReg, ioByte_setIo_other s v hj, hne]

section
variable {s : State}

/-! ## A write of a sound register -/

theorem SoundInv.trigger1 (h : SoundInv s) (hon : apuOn s = true) : SoundInv (trigger1 s) := by
  have hch : ChannelInv s.apu.ch1 64 (envDacOn (s.ioByte 0x12)) true (s.ioByte 0x14) := hon ▸ h.ch1
  have htrigger := ChannelInv.stopped (ChannelInv.trigger hch)
    (on := (triggerChannel s.apu.ch1 (envDacOn (s.ioByte 0x12)) 64).enabled && !(decide (field (s.ioByte 0x10) 2 0 ≠ 0) &&
      decide (sweepCalc (s.ioByte 0x10) (freq1 s) > 2047))) fun hen => ((Bool.and_eq_true _ _).mp hen).1
  rw [← hon] at htrigger
  exact { h with
    ch1 := htrigger, env1 := triggerEnvelope_inv _, shadowFreq := freqOf_le .., sweepTimer := Nat.zero_le _ }

theorem SoundInv.trigger2 (h : SoundInv s) (hon : apuOn s = true) : SoundInv (trigger2 s) := by
  have htrigger := ChannelInv.trigger (hon ▸ h.ch2)
  rw [← hon] at htrigger
  exact { h with ch2 := htrigger, env2 := triggerEnvelope_inv _ }

theorem SoundInv.trigger3 (h : SoundInv s) (hon : apuOn s = true) : SoundInv (trigger3 s) := by
  have htrigger := ChannelInv.trigger (hon ▸ h.ch3)
  rw [← hon] at htrigger
  exact { h with ch3 := htrigger }

theorem SoundInv.trigger4 (h : SoundInv s) (hon : apuOn s = true) : SoundInv (trigger4 s) := by
  have htrigger := ChannelInv.trigger (hon ▸ h.ch4)
  rw [← hon] at htrigger
  exact { h with ch4 := htrigger, env4 := triggerEnvelope_inv _ }

/-- The machine with `v` stored in a sound register and the APU `a`. -/
theorem soundInv_stored {k : Nat} {v : Byte} {a : Apu} (h : ApuInv a (storedReg s.ioByte k v)) :
    SoundInv { s.setIo k v with apu := a } :=
  soundInv_iff.mpr (ioByte_setIo_eq s k v ▸ h)

/-- A length-enable write, and then the trigger if bit 7 is set. -/
theorem soundInv_triggered {u : State} (h : SoundInv u) (hon : apuOn u = true) {trigger : State → State}
    (ht : SoundInv u → apuOn u = true → SoundInv (trigger u)) (b : Bool) :
    SoundInv (if b then trigger u else u) := by
  cases b with
  | true => exact ht h hon
  | false => exact h

theorem SoundInv.write (h : SoundInv s) (hon : apuOn s = true) {k : Nat} (v : Byte) (hk : k ≤ 0x25) :
    SoundInv (soundEffect (s.setIo k v) k v) := by
  have ha := soundInv_iff.mp h
  have hon' (a : Apu) : apuOn { s.setIo k v with apu := a } = true :=
    (congrArg (bit · 7) (ioByte_setIo_withApu_other s a v (by omega : 0x26 ≠ k))).trans hon
  unfold soundEffect
  split
  next => exact soundInv_stored { ha with ch1 := ChannelInv.withLength ha.ch1 (Nat.sub_le ..) }
  next => exact soundInv_stored { ha with ch1 := ChannelInv.afterDac ha.ch1 _ }
  next =>
    have hu := soundInv_stored (k := 0x14) (v := v) (a := { s.apu with ch1 := s.apu.ch1.withLengthEnable v })
      { ha with ch1 := ChannelInv.withLengthEnable ha.ch1 v }
    exact soundInv_triggered hu (hon' _) SoundInv.trigger1 _
  next => exact soundInv_stored { ha with ch2 := ChannelInv.withLength ha.ch2 (Nat.sub_le ..) }
  next => exact soundInv_stored { ha with ch2 := ChannelInv.afterDac ha.ch2 _ }
  next =>
    have hu := soundInv_stored (k := 0x19) (v := v) (a := { s.apu with ch2 := s.apu.ch2.withLengthEnable v })
      { ha with ch2 := ChannelInv.withLengthEnable ha.ch2 v }
    exact soundInv_triggered hu (hon' _) SoundInv.trigger2 _
  next => exact soundInv_stored { ha with ch3 := ChannelInv.afterDac ha.ch3 _ }
  next => exact soundInv_stored { ha with ch3 := ChannelInv.withLength ha.ch3 (Nat.sub_le ..) }
  next =>
    have hu := soundInv_stored (k := 0x1E) (v := v) (a := { s.apu with ch3 := s.apu.ch3.withLengthEnable v })
      { ha with ch3 := ChannelInv.withLengthEnable ha.ch3 v }
    exact soundInv_triggered hu (hon' _) SoundInv.trigger3 _
  next => exact soundInv_stored { ha with ch4 := ChannelInv.withLength ha.ch4 (Nat.sub_le ..) }
  next => exact soundInv_stored { ha with ch4 := ChannelInv.afterDac ha.ch4 _ }
  next =>
    have hu := soundInv_stored (k := 0x23) (v := v) (a := { s.apu with ch4 := s.apu.ch4.withLengthEnable v })
      { ha with ch4 := ChannelInv.withLengthEnable ha.ch4 v }
    exact soundInv_triggered hu (hon' _) SoundInv.trigger4 _
  next =>
    refine SoundInv.congr h rfl fun j hj => ioByte_setIo_other s v ?_
    rintro rfl
    simp_all [channelRegs]

theorem SoundInv.writeSound (h : SoundInv s) {k : Nat} (v : Byte) (hk : k ≤ 0x25) : SoundInv (writeSound s k v) := by
  unfold Machine.writeSound
  split
  next hon => exact SoundInv.write h hon v hk
  next => exact h

/-- 55_apu R1014: powered off, every channel is silent and its registers are 0; powered on again, no channel sounds. -/
theorem SoundInv.writeNr52 (h : SoundInv s) (v : Byte) : SoundInv (writeNr52 s v) := by
  obtain ⟨hon, hv⟩ | hkept := writeNr52_cases s v
  · have hzero (k : Nat) (hlo : 0x10 ≤ k) (hhi : k ≤ 0x25) (hused : unusedIo k = false) :
        bit ((Machine.writeNr52 s v).ioByte k) 6 = false := by
      rw [ioByte_writeNr52_powerOff hon hv hlo hhi hused]
      rfl
    have h14 := hzero 0x14 (by decide) (by decide) (by decide)
    have h19 := hzero 0x19 (by decide) (by decide) (by decide)
    have h1e := hzero 0x1E (by decide) (by decide) (by decide)
    have h23 := hzero 0x23 (by decide) (by decide) (by decide)
    have happ : (Machine.writeNr52 s v).apu = { s.apu with
        ch1 := s.apu.ch1.powerOff, ch2 := s.apu.ch2.powerOff, ch3 := s.apu.ch3.powerOff, ch4 := s.apu.ch4.powerOff } := by
      rw [writeNr52_powerOff hon hv]
    rw [soundInv_iff, happ]
    exact { soundInv_iff.mp h with
      ch1 := ChannelInv.powerOff h.ch1 h14, ch2 := ChannelInv.powerOff h.ch2 h19
      ch3 := ChannelInv.powerOff h.ch3 h1e, ch4 := ChannelInv.powerOff h.ch4 h23 }
  · have hon' : apuOn s = true → apuOn (Machine.writeNr52 s v) = true := fun hon => apuOn_writeNr52.trans (hkept hon)
    have hpower {ch : Channel} {full : Nat} {dacOn : Bool} {nrx4 : Byte} (hch : ChannelInv ch full dacOn (apuOn s) nrx4) :
        ChannelInv ch full dacOn (apuOn (Machine.writeNr52 s v)) nrx4 :=
      { hch with power := fun hen => hon' (hch.power hen) }
    have hother (j : Nat) (hj : j ≠ 0x26) : (Machine.writeNr52 s v).ioByte j = s.ioByte j := by
      rw [writeNr52_stores hkept]
      exact ioByte_setIo_other s _ hj
    have happ : (Machine.writeNr52 s v).apu = s.apu := by rw [writeNr52_stores hkept]; rfl
    constructor
    case ch1 => rw [happ, hother 0x12 (by decide), hother 0x14 (by decide)]; exact hpower h.ch1
    case ch2 => rw [happ, hother 0x17 (by decide), hother 0x19 (by decide)]; exact hpower h.ch2
    case ch3 => rw [happ, hother 0x1A (by decide), hother 0x1E (by decide)]; exact hpower h.ch3
    case ch4 => rw [happ, hother 0x21 (by decide), hother 0x23 (by decide)]; exact hpower h.ch4
    case env1 => exact happ ▸ h.env1
    case env2 => exact happ ▸ h.env2
    case env4 => exact happ ▸ h.env4
    case shadowFreq => exact happ ▸ h.shadowFreq
    case sweepTimer => exact happ ▸ h.sweepTimer

/-! ## The frame tick -/

theorem SoundInv.oneSample (h : SoundInv s) : SoundInv (oneSample s).2 := by
  have h1 {s : State} (h : SoundInv s) : SoundInv (sampleCh1 s).2 := by
    unfold sampleCh1
    split
    · exact { h with ch1 := ChannelInv.withPhase h.ch1 _ }
    · exact h
  have h2 {s : State} (h : SoundInv s) : SoundInv (sampleCh2 s).2 := by
    unfold sampleCh2
    split
    · exact { h with ch2 := ChannelInv.withPhase h.ch2 _ }
    · exact h
  have h3 {s : State} (h : SoundInv s) : SoundInv (sampleCh3 s).2 := by
    unfold sampleCh3
    split
    · exact { h with ch3 := ChannelInv.withPhase h.ch3 _ }
    · exact h
  have h4 {s : State} (h : SoundInv s) : SoundInv (sampleCh4 s).2 := by
    unfold sampleCh4
    split
    · exact { h with ch4 := ChannelInv.withPhase h.ch4 _ }
    · exact h
  exact h4 (h3 (h2 (h1 h)))

theorem SoundInv.samples (n : Nat) (h : SoundInv s) : SoundInv (samples n s).2 := by
  induction n generalizing s with
  | zero => exact h
  | succ n ih => exact ih (SoundInv.oneSample h)

theorem SoundInv.deliverSamples (h : SoundInv s) : SoundInv (deliverSamples s) := by
  unfold Machine.deliverSamples
  generalize (if s.host.soundEnabled then s.host.sampleSlots else 0) = n
  dsimp only
  split
  · exact h
  · exact SoundInv.congr (SoundInv.samples n h) rfl fun _ _ => rfl

theorem SoundInv.lengthTicks (h : SoundInv s) : SoundInv (lengthTicks s) := { h with
  ch1 := ChannelInv.lengthTick h.ch1, ch2 := ChannelInv.lengthTick h.ch2
  ch3 := ChannelInv.lengthTick h.ch3, ch4 := ChannelInv.lengthTick h.ch4 }

theorem SoundInv.envelopeTicks (h : SoundInv s) : SoundInv (envelopeTicks s) := { h with
  env1 := EnvelopeInv.tick h.env1 .., env2 := EnvelopeInv.tick h.env2 .., env4 := EnvelopeInv.tick h.env4 .. }

/-- The sweep writes bits 2-0 of NR14 only, so the length enable still mirrors bit 6. -/
theorem bit6_mergeBits_low3 (old v : Byte) : bit (mergeBits old v 0x07) 6 = bit old 6 := by
  simp [bit, mergeBits]

theorem SoundInv.sweepUpdate (h : SoundInv s) : SoundInv (sweepUpdate s) := by
  obtain ⟨f, hf⟩ : ∃ f, f = sweepCalc (s.ioByte 0x10) s.apu.shadowFreq := ⟨_, rfl⟩
  by_cases hover : 2047 < f
  · rw [sweepUpdate_overflow hf hover]
    exact { h with ch1 := ChannelInv.stopped h.ch1 nofun, sweepTimer := Nat.zero_le _ }
  · have hfits := Nat.le_of_not_lt hover
    by_cases hshift : field (s.ioByte 0x10) 2 0 = 0
    · rw [sweepUpdate_unshifted hf hfits hshift]
      exact { h with sweepTimer := Nat.zero_le _ }
    · rw [sweepUpdate_shifted hf hfits hshift]
      have ha := soundInv_iff.mp h
      refine soundInv_stored (s := s.setIo 0x13 (BitVec.ofNat 8 f)) (k := 0x14) ?_
      rw [ioByte_setIo_eq]
      exact { ha with
        ch1 := { ha.ch1 with mirror := h.ch1.mirror.trans (bit6_mergeBits_low3 ..).symm }
        shadowFreq := hfits, sweepTimer := Nat.zero_le _ }

theorem SoundInv.sweepTick (h : SoundInv s) : SoundInv (sweepTick s) := by
  have hperiod : field (s.ioByte 0x10) 6 4 ≤ 7 := field_le _ 7 rfl
  unfold Machine.sweepTick
  dsimp only
  split
  · split
    · exact SoundInv.sweepUpdate h
    · exact { h with sweepTimer := by simp only; omega }
  · exact h

theorem SoundInv.apuFrameTick (h : SoundInv s) : SoundInv (apuFrameTick s) := by
  unfold Machine.apuFrameTick
  split
  · exact SoundInv.sweepTick (SoundInv.envelopeTicks (SoundInv.lengthTicks (SoundInv.deliverSamples h)))
  · exact h

/-! ## A step -/

theorem SoundInv.setIo (h : SoundInv s) {k : Nat} (v : Byte) (hk : ¬(0x10 ≤ k ∧ k ≤ 0x26)) : SoundInv (s.setIo k v) :=
  SoundInv.congr h rfl fun j hj => ioByte_setIo_other s v <| by
    rintro rfl
    simp only [channelRegs, List.mem_cons, List.not_mem_nil, or_false] at hj
    omega

theorem SoundInv.bus {t : State} (htouch : BusTouch s t) (h : SoundInv s) : SoundInv t := by
  cases htouch with
  | io k v hk =>
    obtain ⟨-, hk, -⟩ := hk
    exact SoundInv.setIo h v hk
  | storage ht =>
    rw [ht]
    exact { h with }
  | sound k v _ hhi => exact SoundInv.writeSound h v hhi
  | power v => exact SoundInv.writeNr52 h v
  | lcdc v =>
    have happ : (writeLcdc s v).apu = s.apu := by rw [writeLcdc_only]
    refine SoundInv.congr h happ fun j hj => writeLcdc_ioByte_other s v ?_
    rintro rfl
    revert hj
    decide
  | tima v =>
    rw [writeTima_only]
    exact { h with }
  | tac v => exact SoundInv.congr (SoundInv.setIo h v (by decide : ¬(0x10 ≤ 0x07 ∧ 0x07 ≤ 0x26))) rfl fun _ _ => rfl
  | mapper | hdma | serial => exact { h with }
  | div => exact { h with }

theorem SoundInv.touch {t : State} (htouch : StepTouch s t) (h : SoundInv s) : SoundInv t := by
  cases htouch with
  | core ht =>
    rw [ht]
    exact { h with }
  | event hevent =>
    cases hevent with
    | bus hbus => exact SoundInv.bus hbus h
    | ppu | host => exact { h with }
    | frameTick => exact SoundInv.apuFrameTick h
    | timer d _ =>
      exact SoundInv.congr (SoundInv.setIo h _ (by decide : ¬(0x10 ≤ 0x0F ∧ 0x0F ≤ 0x26))) rfl fun _ _ => rfl

end

/-- Settles O12: what each operation of the APU keeps of a channel, an envelope and the sweep. -/
theorem stepKeepsSoundState : Obligations.StepKeepsSoundState :=
  fun _ _ hs hstep => (step_touches hstep).keep SoundInv.touch hs

end Sys2Proof.Proofs
end

section
/-! SUPPORT and proofs of O42 and O43. The bus (20_memory R201 to R211, R250): where each region leads, and the bytes of
plain storage behind the addresses. -/

namespace Sys2Proof.Proofs

open Sys2Proof.Machine

/-! ## The address map -/

section
variable (s : State) {a : Word}

theorem placeOf_romLow (h : a.toNat ≤ 0x3FFF) : placeOf s a = .rom (romIndex s 0 a.toNat) := if_pos (Nat.lt_succ_of_le h)

theorem placeOf_vram (hlo : 0x8000 ≤ a.toNat) (hhi : a.toNat ≤ 0x9FFF) :
    placeOf s a = .vram (vramBank s * 0x2000 + (a.toNat - 0x8000)) := by
  have below : ∀ n, n ≤ 0x8000 → ¬ a.toNat < n := fun n hn => by omega
  simp [placeOf, below, show a.toNat < 0xA000 by omega]

theorem placeOf_wram (hlo : 0xC000 ≤ a.toNat) (hhi : a.toNat ≤ 0xDFFF) : placeOf s a = .wram (wramIndex s a.toNat) := by
  have below : ∀ n, n ≤ 0xC000 → ¬ a.toNat < n := fun n hn => by omega
  simp [placeOf, below, show a.toNat < 0xE000 by omega]

/-- The echo region shows the system RAM 0x2000 below (R209). -/
theorem placeOf_echo (hlo : 0xE000 ≤ a.toNat) (hhi : a.toNat ≤ 0xFDFF) : placeOf s a = placeOf s (a - 0x2000) := by
  have hsub : (a - 0x2000 : Word).toNat = a.toNat - 0x2000 := by bv_omega
  have below : ∀ n, n ≤ 0xE000 → ¬ a.toNat < n := fun n hn => by omega
  rw [placeOf_wram s (a := a - 0x2000) (by omega) (by omega), hsub]
  simp [placeOf, below, show a.toNat < 0xFE00 by omega]

theorem placeOf_oam (hlo : 0xFE00 ≤ a.toNat) (hhi : a.toNat ≤ 0xFEFF) : placeOf s a = .oam (a.toNat - 0xFE00) := by
  have below : ∀ n, n ≤ 0xFE00 → ¬ a.toNat < n := fun n hn => by omega
  simp [placeOf, below, show a.toNat < 0xFF00 by omega]

theorem placeOf_io (hlo : 0xFF00 ≤ a.toNat) (hhi : a.toNat ≤ 0xFF7F) : placeOf s a = .io (a.toNat - 0xFF00) := by
  have below : ∀ n, n ≤ 0xFF00 → ¬ a.toNat < n := fun n hn => by omega
  simp [placeOf, below, show a.toNat < 0xFF80 by omega]

theorem placeOf_hram (hlo : 0xFF80 ≤ a.toNat) (hhi : a.toNat ≤ 0xFFFE) : placeOf s a = .hram (a.toNat - 0xFF00) := by
  have below : ∀ n, n ≤ 0xFF80 → ¬ a.toNat < n := fun n hn => by omega
  simp [placeOf, below, show a.toNat < 0xFFFF by omega]

theorem placeOf_ie (ha : a.toNat = 0xFFFF) : placeOf s a = .ie := by simp [placeOf, ha]

/-- The part of the address map that leads to a place of VRAM, OAM or the I/O page. -/
def placeRange (a : Word) : Place → Prop
  | .vram _ => 0x8000 ≤ a.toNat ∧ a.toNat ≤ 0x9FFF
  | .oam k => a.toNat = 0xFE00 + k ∧ a.toNat ≤ 0xFEFF
  | .io k => a.toNat = 0xFF00 + k
  | _ => True

theorem placeOf_range : placeRange a (placeOf s a) := by
  have hregion : a.toNat ≤ 0x3FFF ∨ (0x4000 ≤ a.toNat ∧ a.toNat ≤ 0x7FFF) ∨ (0x8000 ≤ a.toNat ∧ a.toNat ≤ 0x9FFF) ∨
      (0xA000 ≤ a.toNat ∧ a.toNat ≤ 0xBFFF) ∨ (0xC000 ≤ a.toNat ∧ a.toNat ≤ 0xDFFF) ∨
      (0xE000 ≤ a.toNat ∧ a.toNat ≤ 0xFDFF) ∨ (0xFE00 ≤ a.toNat ∧ a.toNat ≤ 0xFEFF) ∨
      (0xFF00 ≤ a.toNat ∧ a.toNat ≤ 0xFF7F) ∨ (0xFF80 ≤ a.toNat ∧ a.toNat ≤ 0xFFFE) ∨ a.toNat = 0xFFFF := by
    have := a.isLt
    omega
  obtain hr | ⟨hl, hh⟩ | ⟨hl, hh⟩ | ⟨hl, hh⟩ | ⟨hl, hh⟩ | ⟨hl, hh⟩ | ⟨hl, hh⟩ | ⟨hl, hh⟩ | ⟨hl, hh⟩ | hr := hregion
  · exact placeOf_romLow s hr ▸ trivial
  · exact placeOf_romHigh s hl hh ▸ trivial
  · exact placeOf_vram s hl hh ▸ ⟨hl, hh⟩
  · exact placeOf_cartRam s hl hh ▸ trivial
  · exact placeOf_wram s hl hh ▸ trivial
  · rw [placeOf_echo s hl hh, placeOf_wram s (a := a - 0x2000) (by bv_omega) (by bv_omega)]
    exact trivial
  · exact placeOf_oam s hl hh ▸ ⟨(Nat.add_sub_of_le hl).symm, hh⟩
  · exact placeOf_io s hl hh ▸ (Nat.add_sub_of_le hl).symm
  · exact placeOf_hram s hl hh ▸ trivial
  · exact placeOf_ie s hr ▸ trivial

theorem toNat_of_placeOf_vram {k : Nat} (h : placeOf s a = .vram k) : 0x8000 ≤ a.toNat ∧ a.toNat ≤ 0x9FFF :=
  (congrArg (placeRange a) h).mp (placeOf_range s)

theorem toNat_of_placeOf_oam {k : Nat} (h : placeOf s a = .oam k) : a.toNat = 0xFE00 + k ∧ a.toNat ≤ 0xFEFF :=
  (congrArg (placeRange a) h).mp (placeOf_range s)

theorem toNat_of_placeOf_io {k : Nat} (h : placeOf s a = .io k) : a.toNat = 0xFF00 + k :=
  (congrArg (placeRange a) h).mp (placeOf_range s)

theorem memRead_of_place {p : Place} (h : placeOf s a = p) : memRead s a = readPlace s p := by rw [memRead, h]

theorem memWrite_of_place {p : Place} (h : placeOf s a = p) (v : Byte) : memWrite s a v = writePlace s a v p := by
  rw [memWrite, h]

end

/-! ## The bits of an I/O register that read 1 (10_state R62) -/

theorem or_and_mask (x m : Byte) : (x ||| m) &&& m = m := by
  ext i hi
  simp only [BitVec.getElem_and, BitVec.getElem_or, Bool.and_or_distrib_right, Bool.and_self, Bool.or_eq_right_iff_imp]
  simp

/-- Computed bits outside the mask leave the mask's bits. -/
theorem mergeBits_and_clear {x v k m : Byte} (hx : x &&& m = m) (hk : k &&& m = 0) : mergeBits x v k &&& m = m := by
  have hx' (i : Nat) (hi : i < 8) : (x[i] && m[i]) = m[i] := by
    have := congrArg (fun w : Byte => w[i]) hx
    simpa using this
  have hk' (i : Nat) (hi : i < 8) : (k[i] && m[i]) = false := by
    have := congrArg (fun w : Byte => w[i]) hk
    simpa using this
  ext i hi
  have h1 := hx' i hi
  have h2 := hk' i hi
  simp only [mergeBits, BitVec.getElem_and, BitVec.getElem_or, BitVec.getElem_not]
  cases hm : m[i] <;> simp_all

/-- KEY1's and RP's computed bits lie outside their masks. -/
theorem key1_and_mask : ∀ (x : Byte) (b : Bool), x &&& 0x7E = 0x7E → setBit x 7 b &&& 0x7E = 0x7E := by decide

theorem rp_and_mask : ∀ (x : Byte) (b : Bool), x &&& 0x3C = 0x3C → setBit x 1 b &&& 0x3C = 0x3C := by decide

section
variable {s : State} {k : Nat}

theorem readback_and_mask (hw : s.params.ioReadback = .hw) :
    readback s k &&& ioReadMask s.cgbMode k = ioReadMask s.cgbMode k := by
  simp only [readback, hw, or_and_mask]

theorem ioReadReg_and_mask (hw : s.params.ioReadback = .hw) :
    ioReadReg s k &&& ioReadMask s.cgbMode k = ioReadMask s.cgbMode k := by
  have hread := readback_and_mask (k := k) hw
  unfold ioReadReg
  split
  case h_1 => exact mergeBits_and_clear hread (show (0x0F : Byte) &&& 0xC0 = 0 by decide)
  case h_4 => exact mergeBits_and_clear hread (show (0x0F : Byte) &&& 0x70 = 0 by decide)
  case h_5 => exact mergeBits_and_clear hread (show (0x07 : Byte) &&& 0x80 = 0 by decide)
  case h_7 => exact key1_and_mask _ _ hread
  case h_9 => exact rp_and_mask _ _ hread
  case h_12 =>
    split
    next hwave =>
      obtain ⟨hlo, hhi⟩ := hwave
      have hmask : ioReadMask s.cgbMode k = 0 := by interval_cases k <;> rfl
      rw [hmask]
      exact BitVec.and_zero
    next => exact hread
  all_goals exact BitVec.and_zero

end

/-- An unused address in the sound registers' range is a gap, which has no effect of its own (log 19). -/
theorem soundGap_of_unused {cgb : Bool} {k : Nat} (hunused : ioUnused cgb k = true) (hlo : 0x10 ≤ k) (hhi : k ≤ 0x25) :
    k = 0x15 ∨ k = 0x1F := by
  revert hunused
  cases cgb <;> interval_cases k <;> simp [ioUnused, unusedIo, cgbOnlyIo]

section
variable {s : State} {k : Nat} (hraw : s.params.ioReadback = .raw) (hunused : ioUnused s.cgbMode k = true) (v : Byte)
include hraw hunused

theorem ioWrite_unused_raw (h : apuOn s = true ∨ k < 0x10 ∨ 0x25 < k) :
    ioWrite s k v = { s with io := s.io.write k v } := by
  have hwrite : ioWrite s k v = if 0x10 ≤ k ∧ k ≤ 0x25 then writeSound s k v else s.setIo k v := by
    simp only [ioWrite, hunused, hraw, if_true]
  rw [hwrite]
  split
  next hrange =>
    obtain ⟨hlo, hhi⟩ := hrange
    have hon : apuOn s = true := h.resolve_right (by omega)
    rw [writeSound, if_pos hon]
    obtain rfl | rfl := soundGap_of_unused hunused hlo hhi
    · rfl
    · rfl
  next => rfl

theorem ioRead_stored_raw : ioRead { s with io := s.io.write k v } k = v := by
  simp only [ioRead, hunused, hraw, if_true]
  exact s.io.read_write_same k v

end

/-- Settles O42: a bus access is that of its place; the hardware read masks are kept by every computed field. -/
theorem busMapAndUnusedIo : Obligations.BusMapAndUnusedIo := by
  unfold Obligations.BusMapAndUnusedIo
  refine ⟨?map, ?io⟩
  case map =>
    rintro s a v _ rfl
    have hbus {p : Place} (h : placeOf s a = p) : memRead s a = readPlace s p ∧ memWrite s a v = writePlace s a v p :=
      ⟨memRead_of_place s h, memWrite_of_place s h v⟩
    refine ⟨fun h => hbus (placeOf_romLow s h), fun hlo hhi => hbus (placeOf_romHigh s hlo hhi),
      fun hlo hhi => hbus (placeOf_vram s hlo hhi), fun hlo hhi => hbus (placeOf_cartRam s hlo hhi), fun hlo hhi => ?fixed,
      fun hlo hhi => ?banked, fun hlo hhi => ?echo, fun hlo hhi => hbus (placeOf_oam s hlo hhi),
      fun hlo hhi => ⟨memRead_io s hlo (by omega), memWrite_io s v (by omega) (by omega)⟩,
      fun hlo hhi => hbus (placeOf_hram s hlo hhi),
      fun h => hbus (placeOf_ie s h), (memWrite_keeps s a v).rom⟩
    case fixed =>
      have hplace := placeOf_wram s hlo (by omega : a.toNat ≤ 0xDFFF)
      rw [wramIndex, if_pos (by omega)] at hplace
      exact hbus hplace
    case banked =>
      have hplace := placeOf_wram s (by omega : 0xC000 ≤ a.toNat) hhi
      rw [wramIndex, if_neg (by omega)] at hplace
      exact hbus hplace
    case echo =>
      have hplace := placeOf_echo s hlo hhi
      have hwram := placeOf_wram s (a := a - 0x2000) (by bv_omega) (by bv_omega)
      rw [memRead, memRead, memWrite, memWrite, hplace, hwram]
      exact ⟨rfl, rfl⟩
  case io =>
    intro s k v hk
    refine ⟨fun hw hunused => ?unused, fun hw hused => ?masked, fun hraw hunused => ⟨fun hon => ?stores, fun hoff hlo hhi => ?gap⟩⟩
    case unused => exact ⟨ioRead_unused s hw hunused, by simp [ioWrite, hunused, hw]⟩
    case masked => rw [ioRead, hused]; exact ioReadReg_and_mask hw
    case stores =>
      rw [ioWrite_unused_raw hraw hunused v hon]
      exact ⟨rfl, ioRead_stored_raw hraw hunused v⟩
    case gap =>
      have hsound : ioWrite s k v = writeSound s k v := by simp [ioWrite, hunused, hraw, hlo, hhi]
      rw [hsound, writeSound, hoff]
      rfl

/-! ## Plain storage (20_memory R250) -/

/-- What the storage byte holds after a write of `v`: `v`, but for MBC2's four-bit cells (25_cartridge R330). -/
def cellValue (s : State) (c : StorageByte) (v : Byte) : Byte :=
  match c with
  | .cram _ => if s.cart.kind = .mbc2 then v &&& 0x0F else v
  | _ => v

/-- The state with `w` in a storage byte. -/
def storeCell (s : State) (c : StorageByte) (w : Byte) : State :=
  match c with
  | .vram k => { s with vram := s.vram.write k w }
  | .cram k => { s with cram := s.cram.write k w }
  | .wram k => { s with wram := s.wram.write k w }
  | .oam k => { s with oam := s.oam.write k w }
  | .wave k => { s with wave := s.wave.write k w }
  | .hram k => { s with hram := s.hram.write k w }
  | .ie => { s with ie := w }

section
variable {s : State} {a : Word}

/-- The window shows four-bit cells exactly on MBC2. -/
theorem kind_of_cartRamTarget_nibble {off k : Nat} (h : cartRamTarget s off = .nibble k) : s.cart.kind = .mbc2 := by
  unfold cartRamTarget ramBankTarget at h
  cases hk : s.cart.kind with
  | mbc2 => rfl
  | _ =>
    simp only [hk] at h
    split_ifs at h

theorem kind_of_cartRamTarget_ram {off k : Nat} (h : cartRamTarget s off = .ram k) : s.cart.kind ≠ .mbc2 := by
  intro hk
  unfold cartRamTarget at h
  simp only [hk] at h
  split_ifs at h

/-- A write to an address that shows a storage byte is a store of that byte. -/
theorem memWrite_storage {c : StorageByte} (h : storageAt s a = some c) (v : Byte) :
    memWrite s a v = storeCell s c (cellValue s c v) := by
  unfold storageAt at h
  unfold memWrite
  cases hp : placeOf s a with
  | rom k => simp [hp] at h
  | vram k | wram k | oam k | hram k | ie =>
    simp only [hp, Option.some.injEq] at h
    subst h
    rfl
  | io k =>
    simp only [hp] at h
    split_ifs at h with hrange
    obtain rfl := Option.some.inj h
    have hused := ioUnused_wave s.cgbMode hrange
    obtain ⟨hlo, hhi⟩ := hrange
    have hreg : ioWriteReg s k v = { s with wave := s.wave.write (k - 0x30) v } := by interval_cases k <;> rfl
    simp only [writePlace, ioWrite, hused]
    exact hreg
  | cartRam off =>
    simp only [hp] at h
    cases ht : cartRamTarget s off with
    | absent | rtc j => simp [ht] at h
    | ram k =>
      simp only [ht, Option.some.injEq] at h
      subst h
      simp [writePlace, cartRamWrite, ht, storeCell, cellValue, kind_of_cartRamTarget_ram ht]
    | nibble k =>
      simp only [ht, Option.some.injEq] at h
      subst h
      simp [writePlace, cartRamWrite, ht, storeCell, cellValue, kind_of_cartRamTarget_nibble ht]

theorem placeOf_storeCell (s : State) (c : StorageByte) (w : Byte) (b : Word) :
    placeOf (storeCell s c w) b = placeOf s b := by cases c <;> rfl

theorem ioRead_wave (s : State) {j : Nat} (h : 0x30 ≤ j ∧ j ≤ 0x3F) : ioRead s j = s.wave.read (j - 0x30) := by
  rw [ioRead, ioUnused_wave s.cgbMode h]
  obtain ⟨hlo, hhi⟩ := h
  interval_cases j <;> rfl

/-- The byte just stored shows wherever it is shown, and no other address sees it. -/
theorem memRead_storeCell (s : State) (c : StorageByte) (v : Byte) (b : Word) :
    memRead (storeCell s c (cellValue s c v)) b = if storageAt s b = some c then shownAt s b v else memRead s b := by
  have hwrite (m : Memory) (j k : Nat) (w : Byte) : (m.write k w).read j = if j = k then w else m.read j :=
    Memory.read_write ..
  unfold memRead
  rw [placeOf_storeCell]
  unfold storageAt shownAt
  cases hp : placeOf s b with
  | rom j => cases c <;> rfl
  | vram j =>
    cases c with
    | vram k => simp [storeCell, cellValue, readPlace, hwrite]
    | _ => simp [storeCell, readPlace]
  | wram j =>
    cases c with
    | wram k => simp [storeCell, cellValue, readPlace, hwrite]
    | _ => simp [storeCell, readPlace]
  | oam j =>
    cases c with
    | oam k => simp [storeCell, cellValue, readPlace, hwrite]
    | _ => simp [storeCell, readPlace]
  | hram j =>
    cases c with
    | hram k => simp [storeCell, cellValue, readPlace, hwrite]
    | _ => simp [storeCell, readPlace]
  | ie =>
    cases c with
    | ie => simp [storeCell, cellValue, readPlace]
    | _ => simp [storeCell, readPlace]
  | io j =>
    cases c with
    | wave k =>
      have hread : readPlace (storeCell s (.wave k) v) (placeOf (storeCell s (.wave k) v) b) = _ :=
        memRead_wave s (s.wave.write k v) b
      rw [placeOf_storeCell, hp] at hread
      refine hread.trans ?_
      by_cases hrange : 0x30 ≤ j ∧ j ≤ 0x3F
      · simp [hrange, hwrite, readPlace, ioRead_wave s hrange]
      · simp only [hrange, if_false, reduceCtorEq]
        exact memRead_of_place s hp
    | _ =>
      refine (show _ = readPlace s (.io j) from rfl).trans (if_neg ?_).symm
      dsimp only
      split <;> simp
  | cartRam off =>
    cases c with
    | cram k =>
      change cartRamRead { s with cram := s.cram.write k (cellValue s (.cram k) v) } off = _
      rw [cartRamRead_cram]
      cases ht : cartRamTarget s off with
      | absent | rtc j => simp [cartRamRead, ht, readPlace]
      | ram j =>
        have hvalue : cellValue s (.cram k) v = v := if_neg (kind_of_cartRamTarget_ram ht)
        simp [hwrite, hvalue, readPlace, cartRamRead, ht]
      | nibble j =>
        have hvalue : cellValue s (.cram k) v = v &&& 0x0F := if_pos (kind_of_cartRamTarget_nibble ht)
        simp only [hwrite, hvalue, readPlace, cartRamRead, ht, Option.some.injEq, StorageByte.cram.injEq]
        split <;> rfl
    | _ =>
      refine (show _ = readPlace s (.cartRam off) from rfl).trans (if_neg ?_).symm
      dsimp only
      cases cartRamTarget s off <;> simp

end

/-- Settles O43: the write is a store of the byte shown, and reads see it where it is shown. -/
theorem latestWriteIsRead : Obligations.LatestWriteIsRead := by
  unfold Obligations.LatestWriteIsRead
  intro s a b v cell h
  rw [memWrite_storage h, memRead_storeCell]

end Sys2Proof.Proofs
end

section
/-! SUPPORT and proofs of O25, O28 and O33. DAA on decimal operands, the CB rotates and shifts, and the system
instructions. -/

namespace Sys2Proof.Proofs

open Sys2Proof.Machine

/-! ## Decimal adjustment (42_alu8 R638) -/

/-- The byte of a two-digit decimal number. -/
def bcdByte (n : Nat) : Byte := BitVec.ofNat 8 (n / 10 * 16 + n % 10)

theorem bcdByte_toNat {n : Nat} (h : n < 100) : (bcdByte n).toNat = n / 10 * 16 + n % 10 := by
  rw [bcdByte, BitVec.toNat_ofNat]
  omega

section
variable {x y : Nat} (hx : x < 100) (hy : y < 100)
include hx hy

/-- The sum of the bytes needs the upper adjustment from 100 on, the lower one when the units make 10. -/
theorem addFlags_bcd_high : decide (x + y ≥ 100) =
    ((addFlags (bcdByte x) (bcdByte y) 0).c || decide ((bcdByte x + bcdByte y).toNat > 0x99)) := by
  have ha := bcdByte_toNat hx
  have hb := bcdByte_toNat hy
  rw [Bool.eq_iff_iff]
  simp only [addFlags, decide_eq_true_eq, Bool.or_eq_true, BitVec.toNat_add, ha, hb]
  omega

theorem addFlags_bcd_low : decide (x % 10 + y % 10 ≥ 10) =
    ((addFlags (bcdByte x) (bcdByte y) 0).h || decide (((bcdByte x + bcdByte y) &&& 0x0F).toNat > 0x09)) := by
  have ha := bcdByte_toNat hx
  have hb := bcdByte_toNat hy
  rw [Bool.eq_iff_iff]
  simp only [addFlags, decide_eq_true_eq, Bool.or_eq_true, toNat_and_nibble, BitVec.toNat_add, ha, hb]
  omega

theorem daa8_add_bcd : daa8 (addFlags (bcdByte x) (bcdByte y) 0) (bcdByte x + bcdByte y) =
    (bcdByte ((x + y) % 100), ⟨decide (bcdByte ((x + y) % 100) = 0), false, false, decide (x + y ≥ 100)⟩) := by
  have hsum : bcdByte x + bcdByte y + (if decide (x + y ≥ 100) then 0x60 else 0) +
      (if decide (x % 10 + y % 10 ≥ 10) then 0x06 else 0) = bcdByte ((x + y) % 100) := by
    have ha := bcdByte_toNat hx
    have hb := bcdByte_toNat hy
    have hc := bcdByte_toNat (n := (x + y) % 100) (Nat.mod_lt _ (by decide))
    apply BitVec.eq_of_toNat_eq
    rw [hc, BitVec.toNat_add, BitVec.toNat_add, BitVec.toNat_add, ha, hb]
    by_cases hhigh : x + y ≥ 100
    · by_cases hlow : x % 10 + y % 10 ≥ 10
      · simp [hhigh, hlow]; omega
      · simp [hhigh, hlow]; omega
    · by_cases hlow : x % 10 + y % 10 ≥ 10
      · simp [hhigh, hlow]; omega
      · simp [hhigh, hlow]; omega
  rw [daa8_afterAdd _ rfl (addFlags_bcd_high hx hy) (addFlags_bcd_low hx hy), hsum]

theorem daa8_sub_bcd : daa8 (subFlags (bcdByte x) (bcdByte y) 0) (bcdByte x - bcdByte y) =
    (bcdByte ((x + 100 - y) % 100), ⟨decide (bcdByte ((x + 100 - y) % 100) = 0), true, false, decide (x < y)⟩) := by
  have ha := bcdByte_toNat hx
  have hb := bcdByte_toNat hy
  have hborrow : (subFlags (bcdByte x) (bcdByte y) 0).c = decide (x < y) := by
    simp only [subFlags, ha, hb, decide_eq_decide]
    omega
  have hhalf : (subFlags (bcdByte x) (bcdByte y) 0).h = decide (x % 10 < y % 10) := by
    simp only [subFlags, toNat_and_nibble, ha, hb, decide_eq_decide]
    omega
  have hdiff : bcdByte x - bcdByte y - (if decide (x < y) then 0x60 else 0) - (if decide (x % 10 < y % 10) then 0x06 else 0) =
      bcdByte ((x + 100 - y) % 100) := by
    have hc := bcdByte_toNat (n := (x + 100 - y) % 100) (Nat.mod_lt _ (by decide))
    apply BitVec.eq_of_toNat_eq
    rw [hc, BitVec.toNat_sub, BitVec.toNat_sub, BitVec.toNat_sub, ha, hb]
    by_cases hlt : x < y
    · by_cases hlow : x % 10 < y % 10
      · simp [hlt, hlow]; omega
      · simp [hlt, hlow]; omega
    · by_cases hlow : x % 10 < y % 10
      · simp [hlt, hlow]; omega
      · simp [hlt, hlow]; omega
  rw [daa8_afterSub _ rfl, hborrow, hhalf, hdiff]

end

/-- Settles O25: the adjustments are the decimal carries of the two digits. -/
theorem daaGivesDecimalResults : Obligations.DaaGivesDecimalResults := by
  unfold Obligations.DaaGivesDecimalResults
  intro x y hx hy bcd hbcd
  obtain rfl : bcd = bcdByte := hbcd
  rw [add8_noCarry, sub8_noCarry, daa8_add_bcd hx hy, daa8_sub_bcd hx hy]
  exact ⟨⟨rfl, rfl⟩, ⟨rfl, rfl⟩⟩

/-! ## The CB rotates and shifts (44_rotate R706 to R721) -/

theorem cbTable_rotR (op : RotOp) (r : R8) : Decode.cbTable[(opcode 0 op.index r.index).toNat]? =
    some (Instr.rotR op r) := by
  cases op <;> cases r <;> rfl

theorem cbTable_rotAtHL (op : RotOp) : Decode.cbTable[(opcode 0 op.index 6).toNat]? = some (Instr.rotAtHL op) := by
  cases op <;> rfl

section
variable (s : State) (op : RotOp)

theorem exec_rotR (r : R8) : exec (Instr.rotR op r) s = instruction 2 8 (replaceOpnd (rotateFlags op) (.reg r)) s := by
  cases op <;> cases r <;> rfl

theorem exec_rotAtHL : exec (Instr.rotAtHL op) s = instruction 2 16 (replaceOpnd (rotateFlags op) .atHL) s := by
  cases op <;> rfl

theorem rotateFlags_eq (old : Flags) (v : Byte) {res : Byte} {out : Bool} (h : (res, out) = rotate op v old.c) :
    rotateFlags op old v = (res, ⟨decide (res = 0), false, false, out⟩) := by
  rw [rotateFlags, ← h, ← Bool.beq_eq_decide_eq]

end

/-- Settles O28: the operand is replaced by `rotateFlags`, in a register or at HL. -/
theorem cbRotatesAndShifts : Obligations.CbRotatesAndShifts := by
  unfold Obligations.CbRotatesAndShifts
  refine fun s op => ⟨fun r res out h => ⟨encodes_of_cb (cbTable_rotR op r), ?reg⟩,
    fun res out h => ⟨encodes_of_cb (cbTable_rotAtHL op), ?atHL⟩⟩
  case reg => rw [exec_rotR, instruction_replaceOpnd_reg, rotateFlags_eq op s.flags _ h]
  case atHL => rw [exec_rotAtHL, instruction_replaceOpnd_atHL, rotateFlags_eq op s.flags _ h]

/-! ## The system instructions (46_system R801 to R805) -/

section
variable {s : State}

theorem haltEffect_parks (h : pendingIrqs s = 0) : haltEffect s = { s with halted := true } := if_pos h

theorem haltEffect_repeats (h : pendingIrqs s ≠ 0) (hbug : s.ime = false ∧ s.params.haltBug = .repeatByte) :
    haltEffect s = { s with haltRepeat := true } := by
  obtain ⟨hime, hparam⟩ := hbug
  rw [haltEffect, if_neg h, if_neg (by simp [hime]), hparam]

theorem haltEffect_goesOn (h : pendingIrqs s ≠ 0) (hbug : ¬(s.ime = false ∧ s.params.haltBug = .repeatByte)) :
    haltEffect s = s := by
  rw [haltEffect, if_neg h]
  split
  next => rfl
  next hime =>
    cases hparam : s.params.haltBug with
    | none => rfl
    | repeatByte => exact absurd ⟨Bool.eq_false_iff.mpr hime, hparam⟩ hbug

theorem haltEffect_ran (s : State) : (haltEffect (ran s 1 0)).addCycles 4 =
    (if pendingIrqs s = 0 then { ran s 1 4 with halted := true }
     else if s.ime = false ∧ s.params.haltBug = .repeatByte then { ran s 1 4 with haltRepeat := true }
     else ran s 1 4) := by
  split
  next h => exact congrArg (State.addCycles · 4) (haltEffect_parks (s := ran s 1 0) h)
  next h =>
    split
    next hbug => exact congrArg (State.addCycles · 4) (haltEffect_repeats (s := ran s 1 0) h hbug)
    next hbug => exact congrArg (State.addCycles · 4) (haltEffect_goesOn (s := ran s 1 0) h hbug)

theorem stopEffect_switches (h : s.cgbMode = true ∧ bit (s.ioByte 0x4D) 0 = true) : stopEffect s = speedSwitch s :=
  if_pos ((Bool.and_eq_true _ _).mpr h)

theorem stopEffect_parks (h : ¬(s.cgbMode = true ∧ bit (s.ioByte 0x4D) 0 = true)) :
    stopEffect s = { s with stopped := true } :=
  if_neg fun hand => h ((Bool.and_eq_true _ _).mp hand)

theorem stopEffect_ran (s : State) : (stopEffect (ran s 2 0)).addCycles 4 =
    (if s.cgbMode = true ∧ bit (s.ioByte 0x4D) 0 = true then
        { ran s 2 4 with
          doubleSpeed := !s.doubleSpeed
          io := s.io.write 0x4D (s.ioByte 0x4D &&& 0xFE)
          timer := { s.timer with divBase := s.counter } }
       else { ran s 2 4 with stopped := true }) := by
  split
  next h => exact congrArg (State.addCycles · 4) (stopEffect_switches (s := ran s 2 0) h)
  next h => exact congrArg (State.addCycles · 4) (stopEffect_parks (s := ran s 2 0) h)

theorem opEi_eq (s : State) : opEi s = .next { ran s 1 4 with imeArmed := s.imeArmed || !s.ime } := by
  rw [opEi, instruction_eq_ran]
  by_cases hime : s.ime = true
  · rw [if_pos (show (ran s 1 0).ime = true from hime), hime, Bool.not_true, Bool.or_false]
    rfl
  · rw [if_neg (show ¬(ran s 1 0).ime = true from hime), Bool.eq_false_iff.mpr hime, Bool.not_false, Bool.or_true]
    rfl

end

/-- Settles O33. -/
theorem systemInstructions : Obligations.SystemInstructions := by
  unfold Obligations.SystemInstructions
  rintro s n _ rfl
  refine ⟨⟨encodes_of_op rfl, rfl⟩, ⟨encodes_of_op rfl, ?halt⟩, ⟨encodes_of_imm8 (f := .stop) rfl n, ?stop⟩,
    ⟨encodes_of_op rfl, rfl⟩, ⟨encodes_of_op rfl, opEi_eq s⟩⟩
  case halt => exact congrArg Host.Outcome.next (haltEffect_ran s)
  case stop => exact congrArg Host.Outcome.next (stopEffect_ran s)

end Sys2Proof.Proofs
end

section
/-! SUPPORT and proofs of O35, O36 and O37. What the forms that store nothing leave unchanged: their next state is the
state with new registers and a moved counter, and a bus read sees neither. -/

namespace Sys2Proof.Proofs

open Sys2Proof.Machine

/-! ## A bus read does not look at the registers, nor, but for DIV and TIMA, at the counter -/

section
variable {s t : State}

theorem ioRead_counter (s : State) (n : Nat) {k : Nat} (h4 : k ≠ 0x04) (h5 : k ≠ 0x05) :
    ioRead { s with counter := n } k = ioRead s k := by
  have hreg : ioReadReg { s with counter := n } k = ioReadReg s k := by
    unfold ioReadReg
    split
    case h_2 => exact absurd rfl h4
    case h_3 => exact absurd rfl h5
    all_goals rfl
  unfold ioRead
  rw [hreg]
  rfl

theorem memRead_counter (s : State) (n : Nat) {a : Word} (h4 : a ≠ 0xFF04) (h5 : a ≠ 0xFF05) :
    memRead { s with counter := n } a = memRead s a := by
  have hplace : placeOf { s with counter := n } a = placeOf s a := rfl
  rw [memRead, hplace, memRead]
  cases hp : placeOf s a with
  | io k =>
    have ha := toNat_of_placeOf_io s hp
    exact ioRead_counter s n (by rintro rfl; exact h4 (BitVec.eq_of_toNat_eq ha))
      (by rintro rfl; exact h5 (BitVec.eq_of_toNat_eq ha))
  | _ => rfl

theorem onlyRegs_of_eq (h : t = { s with regs := t.regs, counter := t.counter, haltRepeat := false }) : onlyRegs s t := by
  refine ⟨h, fun a h4 h5 => ?_⟩
  rw [h]
  exact memRead_counter { s with regs := t.regs, haltRepeat := false } t.counter h4 h5

end

/-! ## What a register write leaves -/

theorem get8_setHl_other (g : Regs) (v : Word) {q : R8} (h : q ∉ [R8.h, .l]) : (g.setHl v).get8 q = g.get8 q := by
  cases q with
  | h | l => simp at h
  | _ => rfl

/-- The 8-bit registers of a pair. -/
def pairRegs : Rp → List R8
  | .bc => [.b, .c]
  | .de => [.d, .e]
  | .hl => [.h, .l]
  | .sp => []

theorem get8_setRp_other (g : Regs) (r : Rp) (v : Word) {q : R8} (h : q ∉ pairRegs r) :
    (g.setRp r v).get8 q = g.get8 q := by
  cases r with
  | hl => exact get8_setHl_other g v h
  | sp => cases q <;> rfl
  | bc =>
    cases q with
    | b | c => simp [pairRegs] at h
    | _ => rfl
  | de =>
    cases q with
    | d | e => simp [pairRegs] at h
    | _ => rfl

section
variable (s : State) (len cost : Nat)

theorem keepsRegs_set8 (dst : R8) (v : Byte) : keepsRegs s ((ran s len cost).set8 dst v) [dst] :=
  fun q hq => Regs.get8_set8_other _ v (by simpa using hq)

theorem get8_ran (q : R8) : (ran s len cost).regs.get8 q = s.regs.get8 q := by cases q <;> rfl

end

/-! ## Loads of a register, RES and SET -/

/-- Each of the forms writes one register. -/
theorem exec_registerLoad {s : State} {i : Instr} {dst r : R8} {n : Byte} {nn : Word} {b : BitIx}
    (h : i = Instr.ldRR dst r ∨ i = Instr.ldRd8 dst n ∨ i = Instr.ldRatHL dst ∨ i = Instr.resR b dst ∨
      i = Instr.setR b dst ∨
      dst = .a ∧ (i = .ld_a_atBC ∨ i = .ld_a_atDE ∨ i = .ld_a_atA16 nn ∨ i = .ldh_a_atA8 n ∨ i = .ldh_a_atC)) :
    ∃ len cost v, exec i s = .next ((ran s len cost).set8 dst v) := by
  obtain rfl | rfl | rfl | rfl | rfl | ⟨rfl, rfl | rfl | rfl | rfl | rfl⟩ := h
  · exact ⟨_, _, _, (exec_ldRR s dst r).trans (opLd8_reg ..)⟩
  · exact ⟨_, _, _, (exec_ldRd8 s dst n).trans (opLd8_reg ..)⟩
  · exact ⟨_, _, _, (exec_ldRatHL s dst).trans (opLd8_reg ..)⟩
  · exact ⟨_, _, _, (exec_resR s b dst).trans (instruction_rewriteOpnd_reg s 8 2 (resBit b) dst)⟩
  · exact ⟨_, _, _, (exec_setR s b dst).trans (instruction_rewriteOpnd_reg s 8 2 (setBitIx b) dst)⟩
  · exact ⟨_, _, _, opLoadA_eq s 1 8 .atBC⟩
  · exact ⟨_, _, _, opLoadA_eq s 1 8 .atDE⟩
  · exact ⟨_, _, _, opLoadA_eq s 3 16 (.abs nn)⟩
  · exact ⟨_, _, _, opLoadA_eq s 2 12 (.high n)⟩
  · exact ⟨_, _, _, opLoadA_eq s 1 8 .highC⟩

/-- Settles O35. -/
theorem registerLoadFrame : Obligations.RegisterLoadFrame := by
  unfold Obligations.RegisterLoadFrame
  intro s t i dst r n nn b hi hexec
  obtain ⟨len, cost, v, hnext⟩ := exec_registerLoad (s := s) hi
  obtain rfl := Host.Outcome.next.inj (hnext.symm.trans hexec)
  exact ⟨keepsRegs_set8 s len cost dst v, Regs.set8_f .., Regs.set8_sp .., onlyRegs_of_eq rfl⟩

/-! ## Arithmetic, rotates and BIT -/

/-- The outcome only writes F and the registers of `ds`. -/
def WritesRegsAndFlags (s : State) (ds : List R8) (o : Host.Outcome State Fault Refusal) : Prop :=
  ∃ len cost g w, o = .next (((ran s len cost).setRegs g).setFlags w) ∧ (∀ q, q ∉ ds → g.get8 q = s.regs.get8 q) ∧
    g.sp = s.regs.sp

section
variable {s : State}

theorem writes_set8 {o : Host.Outcome State Fault Refusal} {len cost : Nat} {dst : R8} {v : Byte} {w : Flags}
    (h : o = .next (((ran s len cost).set8 dst v).setFlags w)) : WritesRegsAndFlags s [dst] o :=
  ⟨len, cost, _, w, h, keepsRegs_set8 s len cost dst v, Regs.set8_sp ..⟩

theorem writes_flags {o : Host.Outcome State Fault Refusal} {len cost : Nat} {w : Flags}
    (h : o = .next ((ran s len cost).setFlags w)) : WritesRegsAndFlags s [] o :=
  ⟨len, cost, _, w, h, fun q _ => get8_ran s len cost q, rfl⟩

/-- CP writes A back as it was. -/
theorem writes_compare {o : Host.Outcome State Fault Refusal} {len cost : Nat} {src : Opnd8}
    (h : o = opAlu len cost .cp src s) : WritesRegsAndFlags s [] o := by
  refine ⟨len, cost, _, _, h.trans (opAlu_eq s len cost .cp src), fun q _ => ?_, rfl⟩
  cases q <;> rfl

theorem exec_arithmetic {i : Instr} {ds : List R8} {op : AluOp} {ro : RotOp} {r : R8} {b : BitIx} {n : Byte}
    (h : ds = [.a] ∧ (i = Instr.aluR op r ∨ i = Instr.aluAtHL op ∨ i = Instr.aluD8 op n ∨ i = .daa ∨ i = .cpl ∨
        i = .rlca ∨ i = .rrca ∨ i = .rla ∨ i = .rra) ∨
      ds = [r] ∧ (i = Instr.incR r ∨ i = Instr.decR r ∨ i = Instr.rotR ro r) ∨
      ds = [] ∧ (i = Instr.bitR b r ∨ i = Instr.bitAtHL b ∨ i = Instr.aluR .cp r ∨ i = Instr.aluAtHL .cp ∨
        i = Instr.aluD8 .cp n ∨ i = .scf ∨ i = .ccf)) :
    WritesRegsAndFlags s ds (exec i s) := by
  obtain ⟨rfl, rfl | rfl | rfl | rfl | rfl | rfl | rfl | rfl | rfl⟩ | ⟨rfl, rfl | rfl | rfl⟩ |
    ⟨rfl, rfl | rfl | rfl | rfl | rfl | rfl | rfl⟩ := h
  · exact writes_set8 ((exec_aluR s op r).trans (opAlu_eq ..))
  · exact writes_set8 ((exec_aluAtHL s op).trans (opAlu_eq ..))
  · exact writes_set8 ((exec_aluD8 s op n).trans (opAlu_eq ..))
  · exact writes_set8 (opDaa_eq s)
  · exact writes_set8 (opCpl_eq s)
  · exact writes_set8 (opRotA_eq s .rlc)
  · exact writes_set8 (opRotA_eq s .rrc)
  · exact writes_set8 (opRotA_eq s .rl)
  · exact writes_set8 (opRotA_eq s .rr)
  · exact writes_set8 ((exec_incR s r).trans (instruction_replaceOpnd_reg s 1 4 inc8 r))
  · exact writes_set8 ((exec_decR s r).trans (instruction_replaceOpnd_reg s 1 4 dec8 r))
  · exact writes_set8 ((exec_rotR s ro r).trans (instruction_replaceOpnd_reg s 2 8 (rotateFlags ro) r))
  · exact writes_flags ((exec_bitR s b r).trans (opBit_eq s 8 b (.reg r)))
  · exact writes_flags ((exec_bitAtHL s b).trans (opBit_eq s 12 b .atHL))
  · exact writes_compare (exec_aluR s .cp r)
  · exact writes_compare (exec_aluAtHL s .cp)
  · exact writes_compare (exec_aluD8 s .cp n)
  · exact writes_flags (opScf_eq s)
  · exact writes_flags (opCcf_eq s)

/-- The flags read back from F are those written. -/
theorem flags_of_next {o : Host.Outcome State Fault Refusal} {u t : State} {w : Flags} (hexec : o = .next t)
    (hnext : o = .next (u.setFlags w)) : bit t.regs.f 7 = w.z ∧ bit t.regs.f 6 = w.n ∧ bit t.regs.f 4 = w.c := by
  obtain rfl := Host.Outcome.next.inj (hnext.symm.trans hexec)
  have hflags : flagsOf (u.setFlags w).regs.f = w := flagsOf_pack w
  exact ⟨congrArg Flags.z hflags, congrArg Flags.n hflags, congrArg Flags.c hflags⟩

theorem carry_kept {i : Instr} {r : R8} {b : BitIx} {t : State}
    (h : i = Instr.incR r ∨ i = Instr.decR r ∨ i = Instr.bitR b r ∨ i = Instr.bitAtHL b ∨ i = .cpl)
    (hexec : exec i s = .next t) : bit t.regs.f 4 = bit s.regs.f 4 := by
  obtain rfl | rfl | rfl | rfl | rfl := h
  · exact (flags_of_next hexec ((exec_incR s r).trans (instruction_replaceOpnd_reg s 1 4 inc8 r))).2.2
  · exact (flags_of_next hexec ((exec_decR s r).trans (instruction_replaceOpnd_reg s 1 4 dec8 r))).2.2
  · exact (flags_of_next hexec ((exec_bitR s b r).trans (opBit_eq s 8 b (.reg r)))).2.2
  · exact (flags_of_next hexec ((exec_bitAtHL s b).trans (opBit_eq s 12 b .atHL))).2.2
  · exact (flags_of_next hexec (opCpl_eq s)).2.2

theorem zero_kept {i : Instr} {t : State} (h : i = .cpl ∨ i = .scf ∨ i = .ccf) (hexec : exec i s = .next t) :
    bit t.regs.f 7 = bit s.regs.f 7 := by
  obtain rfl | rfl | rfl := h
  · exact (flags_of_next hexec (opCpl_eq s)).1
  · exact (flags_of_next hexec (opScf_eq s)).1
  · exact (flags_of_next hexec (opCcf_eq s)).1

end

/-- Settles O36: the forms write registers and flags (`exec_arithmetic`), and the flags named are the old ones. -/
theorem arithmeticFrame : Obligations.ArithmeticFrame := by
  unfold Obligations.ArithmeticFrame
  intro s t i ds op ro r b n hi hexec
  obtain ⟨len, cost, g, w, hnext, hregs, hsp⟩ := exec_arithmetic (s := s) hi
  refine ⟨?regs, ?sp, ?only, ?low, fun h => carry_kept h hexec, fun h => zero_kept h hexec, ?daa⟩
  case daa =>
    rintro rfl
    exact (flags_of_next hexec (opDaa_eq s)).2.1
  all_goals obtain rfl := Host.Outcome.next.inj (hnext.symm.trans hexec)
  case regs => exact fun q hq => (Regs.get8_setF ..).trans (hregs q hq)
  case sp => exact hsp
  case only => exact onlyRegs_of_eq rfl
  case low => exact masked_low _

/-! ## The 16-bit forms and the transfers -/

section
variable {s t : State} {o : Host.Outcome State Fault Refusal} {len cost : Nat}

/-- The registers of the one next state `u` of a form that writes registers only. -/
theorem eq_of_next {u : State} (hexec : o = .next t) (hnext : o = .next u)
    (hu : u = { s with regs := u.regs, counter := u.counter, haltRepeat := false }) : t.regs = u.regs ∧ onlyRegs s t := by
  obtain rfl := Host.Outcome.next.inj (hnext.symm.trans hexec)
  exact ⟨rfl, onlyRegs_of_eq hu⟩

/-- INC, DEC and LD of a pair. -/
theorem pair_frame {r : Rp} {v : Word} (hexec : o = .next t)
    (hnext : o = .next ((ran s len cost).setRegs ((ran s len cost).regs.setRp r v))) :
    keepsRegs s t (pairRegs r) ∧ t.regs.f = s.regs.f ∧ (r ≠ .sp → t.regs.sp = s.regs.sp) ∧ onlyRegs s t := by
  obtain ⟨hregs, honly⟩ := eq_of_next (s := s) hexec hnext rfl
  refine ⟨fun q hq => ?regs, ?flags, ?sp, honly⟩
  case regs =>
    rw [hregs]
    exact (get8_setRp_other _ r v hq).trans (get8_ran ..)
  case flags => rw [hregs]; cases r <;> rfl
  case sp =>
    rw [hregs]
    intro hr
    cases r with
    | sp => exact absurd rfl hr
    | _ => rfl

end

/-- A form that writes at most PC. -/
theorem pc_frame {s t : State} {o : Host.Outcome State Fault Refusal} {len cost : Nat} {pc : Word} (hexec : o = .next t)
    (hnext : o = .next ((ran s len cost).setPc pc)) :
    keepsRegs s t [] ∧ t.regs.f = s.regs.f ∧ t.regs.sp = s.regs.sp ∧ onlyRegs s t := by
  obtain ⟨hregs, honly⟩ := eq_of_next (s := s) hexec hnext rfl
  rw [hregs]
  exact ⟨fun q _ => hregs ▸ (by cases q <;> rfl), rfl, rfl, honly⟩

/-- A conditional form that writes at most PC, in either of its two outcomes. -/
theorem pc_frame_if {s t : State} {o : Host.Outcome State Fault Refusal} {len cost cost' : Nat} {pc : Word} {c : Bool}
    (hexec : o = .next t) (hnext : o = .next (if c then (ran s len cost).setPc pc else ran s len cost')) :
    keepsRegs s t [] ∧ t.regs.f = s.regs.f ∧ t.regs.sp = s.regs.sp ∧ onlyRegs s t := by
  cases c with
  | true => exact pc_frame hexec hnext
  | false => exact pc_frame (len := len) (pc := (ran s len cost').regs.pc) hexec hnext

section
variable {s t : State}

/-- H, L and the flags written. -/
theorem hl_frame {o : Host.Outcome State Fault Refusal} {len cost : Nat} {v : Word} {w : Flags} (hexec : o = .next t)
    (hnext : o = .next (((ran s len cost).setRegs ((ran s len cost).regs.setHl v)).setFlags w)) :
    keepsRegs s t [.h, .l] ∧ t.regs.sp = s.regs.sp ∧ onlyRegs s t := by
  obtain ⟨hregs, honly⟩ := eq_of_next (s := s) hexec hnext rfl
  rw [hregs]
  refine ⟨fun q hq => ?_, rfl, honly⟩
  rw [hregs]
  exact (Regs.get8_setF ..).trans ((get8_setHl_other _ v hq).trans (get8_ran ..))

/-- A register file that differs in no 8-bit register. -/
theorem keepsRegs_nil (h : ∀ q, t.regs.get8 q = s.regs.get8 q) : keepsRegs s t [] := fun q _ => h q

theorem returned_frame (s : State) (cost : Nat) : keepsRegs s (returned s cost) [] ∧
    (returned s cost).regs.f = s.regs.f ∧ onlyRegs s (returned s cost) :=
  ⟨keepsRegs_nil fun q => by cases q <;> rfl, rfl, onlyRegs_of_eq rfl⟩

theorem ran_frame (s : State) (len cost : Nat) : keepsRegs s (ran s len cost) [] ∧
    (ran s len cost).regs.f = s.regs.f ∧ onlyRegs s (ran s len cost) :=
  ⟨keepsRegs_nil (get8_ran s len cost), rfl, onlyRegs_of_eq rfl⟩

/-- LD A,(HL+) and LD A,(HL-). -/
theorem loadStep_frame {k : Word} (hexec : opLoadAStep k s = .next t) :
    keepsRegs s t [.a, .h, .l] ∧ t.regs.f = s.regs.f ∧ t.regs.sp = s.regs.sp ∧ onlyRegs s t := by
  obtain ⟨hregs, honly⟩ := eq_of_next (s := s) hexec (opLoadAStep_eq s k) rfl
  rw [hregs]
  refine ⟨fun q hq => ?_, rfl, rfl, honly⟩
  rw [hregs]
  cases q with
  | a | h | l => simp at hq
  | _ => rfl

/-- The 8-bit registers POP writes, but for F. -/
def popRegs : Rp2 → List R8
  | .bc => [.b, .c]
  | .de => [.d, .e]
  | .hl => [.h, .l]
  | .af => [.a]

theorem get8_setRp2_other (g : Regs) (r : Rp2) (v : Word) {q : R8} (h : q ∉ popRegs r) :
    (g.setRp2 r v).get8 q = g.get8 q := by
  cases r with
  | bc => exact get8_setRp_other g .bc v h
  | de => exact get8_setRp_other g .de v h
  | hl => exact get8_setRp_other g .hl v h
  | af =>
    refine (Regs.get8_setF ..).trans ?_
    cases q with
    | a => simp [popRegs] at h
    | _ => rfl

theorem pop_frame {r : Rp2} (hexec : opPop r s = .next t) :
    keepsRegs s t (popRegs r) ∧ (r ≠ .af → t.regs.f = s.regs.f) ∧ t.regs.sp = s.regs.sp + 2 ∧ onlyRegs s t := by
  obtain ⟨hregs, honly⟩ := eq_of_next (s := s) hexec (opPop_eq s r) rfl
  refine ⟨fun q hq => ?regs, ?flags, ?sp, honly⟩
  case regs =>
    rw [hregs]
    refine (get8_setRp2_other _ r _ hq).trans ?_
    cases q <;> rfl
  case flags =>
    rw [hregs]
    intro hr
    cases r with
    | af => exact absurd rfl hr
    | _ => rfl
  case sp =>
    rw [hregs]
    cases r <;> rfl

end

/-- Settles O37: every form's one next state only has new registers; RETI's has IME set beside. -/
theorem pairAndTransferFrame : Obligations.PairAndTransferFrame := by
  unfold Obligations.PairAndTransferFrame
  intro s t i ds nn e cc
  refine ⟨?pairs, ?addHl, ?hlSp, ?sp, ?step, ?jumps, ?returns, ?reti, ?pop⟩
  case pairs =>
    rintro r hi rfl hexec
    have hds : keepsRegs s t (pairRegs r) ∧ t.regs.f = s.regs.f ∧ (r ≠ .sp → t.regs.sp = s.regs.sp) ∧ onlyRegs s t := by
      obtain rfl | rfl | rfl := hi
      · exact pair_frame hexec ((exec_incRp s r).trans (opStepRp_eq s 1 r))
      · exact pair_frame hexec ((exec_decRp s r).trans (opStepRp_eq s (-1) r))
      · exact pair_frame hexec ((exec_ldRpD16 s r nn).trans (opLdRp_eq s r nn))
    cases r <;> exact hds
  case addHl =>
    intro r hexec
    have hnext := (exec_addHLRp s r).trans (opAddHl_eq s r)
    obtain ⟨hkeeps, hsp, honly⟩ := hl_frame hexec hnext
    exact ⟨hkeeps, hsp, (flags_of_next hexec hnext).1, honly⟩
  case hlSp => exact fun hexec => hl_frame hexec (opLdHlSp_eq s e)
  case sp =>
    rintro (rfl | rfl) hexec
    · obtain ⟨hregs, honly⟩ := eq_of_next (s := s) hexec (opAddSp_eq s e) rfl
      exact ⟨keepsRegs_nil fun q => by rw [hregs]; cases q <;> rfl, honly, nofun⟩
    · obtain ⟨hregs, honly⟩ := eq_of_next (s := s) hexec (opLdSpHl_eq s) rfl
      exact ⟨keepsRegs_nil fun q => by rw [hregs]; cases q <;> rfl, honly, fun _ => by rw [hregs]; rfl⟩
  case step =>
    rintro (rfl | rfl) hexec
    · exact loadStep_frame (k := 1) hexec
    · exact loadStep_frame (k := -1) hexec
  case jumps =>
    rintro (rfl | rfl | rfl | rfl | rfl | rfl) hexec
    · exact pc_frame (len := 1) (cost := 4) (pc := (ran s 1 4).regs.pc) hexec rfl
    · exact pc_frame hexec (opJp_eq s nn)
    · exact pc_frame_if hexec ((exec_jpCC s cc nn).trans (opJpCC_eq s cc nn))
    · exact pc_frame hexec (opJpHl_eq s)
    · exact pc_frame hexec (opJr_eq s e)
    · exact pc_frame_if hexec ((exec_jrCC s cc e).trans (opJrCC_eq s cc e))
  case returns =>
    rintro (rfl | rfl) hexec
    · obtain rfl := Host.Outcome.next.inj ((opRet_eq s).symm.trans hexec)
      exact returned_frame s 16
    · obtain rfl := Host.Outcome.next.inj (((exec_retCC s cc).trans (opRetCC_eq s cc)).symm.trans hexec)
      split
      · exact returned_frame s 20
      · exact ran_frame s 1 8
  case reti =>
    intro hexec
    obtain rfl := Host.Outcome.next.inj ((opReti_eq s).symm.trans hexec)
    exact ⟨keepsRegs_nil fun q => by cases q <;> rfl, rfl, onlyRegs_of_eq rfl⟩
  case pop =>
    rintro r hexec rfl
    have hpop := pop_frame ((exec_pop s r).symm.trans hexec)
    cases r <;> exact hpop

end Sys2Proof.Proofs
end

section
/-! SUPPORT and proofs of O38 and O39. What the forms that store leave unchanged: a store of plain storage changes what no
other storage byte reads, and no store changes the control state. -/

namespace Sys2Proof.Proofs

open Sys2Proof.Machine

/-! ## One byte stored -/

section
variable {s t : State}

theorem BusKeeps.control (h : BusKeeps s t) : keepsControl s t :=
  ⟨h.ime, h.imeArmed, h.halted, h.stopped, h.fault, h.running, h.runEnded, h.doubleSpeed, h.cgbMode, h.cart, h.rom, h.host,
    h.params⟩

/-- A store of plain storage leaves every other storage byte's reads. -/
theorem memRead_memWrite_other {addr : Word} {cell : StorageByte} (h : storageAt s addr = some cell) (v : Byte) {a : Word}
    (ha : storageAt s a ≠ some cell) : memRead (memWrite s addr v) a = memRead s a := by
  rw [latestWriteIsRead s addr a v cell h, if_neg ha]

variable {len cost : Nat} {addr : Word} {v : Byte}

theorem stored_regs (s : State) (len cost : Nat) (addr : Word) (v : Byte) :
    (stored s len cost addr v).regs = (ran s len 0).regs := (memWrite_keeps (ran s len 0) addr v).regs

theorem stored_control (s : State) (len cost : Nat) (addr : Word) (v : Byte) (g : Regs) :
    keepsControl s ((stored s len cost addr v).setRegs g) := by
  have h := BusKeeps.control (memWrite_keeps (ran s len 0) addr v)
  exact h

theorem memRead_stored_other (g : Regs) {cell : StorageByte} (h : storageAt s addr = some cell) {a : Word}
    (h4 : a ≠ 0xFF04) (h5 : a ≠ 0xFF05) (ha : storageAt s a ≠ some cell) :
    memRead ((stored s len cost addr v).setRegs g) a = memRead s a :=
  (memRead_counter { memWrite (ran s len 0) addr v with regs := g } _ h4 h5).trans
    (memRead_memWrite_other (s := ran s len 0) h v ha)

/-- The outcome stores one byte at `addr`, writes the 8-bit registers of `ds` at most, and keeps F unless `flags`. -/
def StoresByte (s : State) (ds : List R8) (addr : Word) (flags : Prop) (o : Host.Outcome State Fault Refusal) : Prop :=
  ∃ len cost v g, o = .next ((stored s len cost addr v).setRegs g) ∧ (∀ q, q ∉ ds → g.get8 q = s.regs.get8 q) ∧
    g.sp = s.regs.sp ∧ (flags ∨ g.f = s.regs.f)

variable {o : Host.Outcome State Fault Refusal} {flags : Prop}

theorem storesByte_stored (h : o = .next (stored s len cost addr v)) : StoresByte s [] addr flags o := by
  refine ⟨len, cost, v, (ran s len 0).regs, ?_, fun q _ => get8_ran s len 0 q, rfl, .inr rfl⟩
  rw [h, ← stored_regs s len cost addr v]
  rfl

theorem storesByte_flags {w : Flags} (h : o = .next ((stored s len cost addr v).setFlags w)) (hf : flags) :
    StoresByte s [] addr flags o := by
  refine ⟨len, cost, v, (ran s len 0).regs.setF w.pack, ?_, fun q _ => ?_, rfl, .inl hf⟩
  · rw [h, ← stored_regs s len cost addr v]
    rfl
  · exact (Regs.get8_setF ..).trans (get8_ran s len 0 q)

theorem storesByte_step {k : Word} (h : o = opStoreAStep k s) : StoresByte s [.h, .l] s.regs.hl flags o :=
  ⟨1, 8, s.regs.a, _, h.trans (opStoreAStep_eq s k),
    fun q hq => (get8_setHl_other _ _ hq).trans (get8_ran s 1 8 q), rfl, .inr rfl⟩

end

theorem exec_byteStore {s : State} {i : Instr} {addr : Word} {ds : List R8} {r : R8} {n : Byte} {nn : Word} {ro : RotOp}
    {b : BitIx}
    (h : ds = [] ∧ addr = s.regs.hl ∧ (i = Instr.ldAtHLR r ∨ i = .ld_atHL_d8 n ∨ i = .inc_atHL ∨ i = .dec_atHL ∨
        i = Instr.rotAtHL ro ∨ i = Instr.resAtHL b ∨ i = Instr.setAtHL b) ∨
      ds = [.h, .l] ∧ addr = s.regs.hl ∧ (i = .ld_atHLi_a ∨ i = .ld_atHLd_a) ∨
      ds = [] ∧ addr = s.regs.bc ∧ i = .ld_atBC_a ∨ ds = [] ∧ addr = s.regs.de ∧ i = .ld_atDE_a ∨
      ds = [] ∧ addr = nn ∧ i = .ld_atA16_a nn ∨ ds = [] ∧ addr = joinWord 0xFF n ∧ i = .ldh_atA8_a n ∨
      ds = [] ∧ addr = joinWord 0xFF s.regs.c ∧ i = .ldh_atC_a) :
    StoresByte s ds addr (i = .inc_atHL ∨ i = .dec_atHL ∨ i = Instr.rotAtHL ro) (exec i s) := by
  obtain ⟨rfl, rfl, rfl | rfl | rfl | rfl | rfl | rfl | rfl⟩ | ⟨rfl, rfl, rfl | rfl⟩ | ⟨rfl, rfl, rfl⟩ | ⟨rfl, rfl, rfl⟩ |
    ⟨rfl, rfl, rfl⟩ | ⟨rfl, rfl, rfl⟩ | ⟨rfl, rfl, rfl⟩ := h
  · exact storesByte_stored ((exec_ldAtHLR s r).trans (opLd8_atHL ..))
  · exact storesByte_stored (opLd8_atHL s 2 12 (.imm n))
  · exact storesByte_flags (instruction_replaceOpnd_atHL s 1 12 inc8) (.inl rfl)
  · exact storesByte_flags (instruction_replaceOpnd_atHL s 1 12 dec8) (.inr (.inl rfl))
  · exact storesByte_flags ((exec_rotAtHL s ro).trans (instruction_replaceOpnd_atHL s 2 16 (rotateFlags ro))) (.inr (.inr rfl))
  · exact storesByte_stored ((exec_resAtHL s b).trans (instruction_rewriteOpnd_atHL s 16 2 (resBit b)))
  · exact storesByte_stored ((exec_setAtHL s b).trans (instruction_rewriteOpnd_atHL s 16 2 (setBitIx b)))
  · exact storesByte_step (k := 1) rfl
  · exact storesByte_step (k := -1) rfl
  · exact storesByte_stored (opStoreA_eq s 1 8 .atBC)
  · exact storesByte_stored (opStoreA_eq s 1 8 .atDE)
  · exact storesByte_stored (opStoreA_eq s 3 16 (.abs addr))
  · exact storesByte_stored (opStoreA_eq s 2 12 (.high n))
  · exact storesByte_stored (opStoreA_eq s 1 8 .highC)

/-- Settles O38. -/
theorem byteStoreFrame : Obligations.ByteStoreFrame := by
  unfold Obligations.ByteStoreFrame
  intro s t i addr ds r n nn ro b hi hexec
  obtain ⟨len, cost, v, g, hnext, hregs, hsp, hf⟩ := exec_byteStore (s := s) hi
  obtain rfl := Host.Outcome.next.inj (hnext.symm.trans hexec)
  exact ⟨hregs, hsp, stored_control s len cost addr v g, hf,
    fun cell hcell a h4 h5 ha => memRead_stored_other g hcell h4 h5 ha⟩

/-! ## Two bytes stored -/

section
variable {s t : State}

theorem storageAt_storeCell (s : State) (c : StorageByte) (w : Byte) (a : Word) :
    storageAt (storeCell s c w) a = storageAt s a := by
  cases c <;> rfl

/-- Storing a storage byte moves no window, so every address shows the byte it showed. -/
theorem storageAt_memWrite {addr : Word} {c : StorageByte} (h : storageAt s addr = some c) (v : Byte) (a : Word) :
    storageAt (memWrite s addr v) a = storageAt s a := by
  rw [memWrite_storage h, storageAt_storeCell]

/-- Two stores, with the registers replaced between them. -/
theorem memRead_two_stores {a1 a2 : Word} {c1 c2 : StorageByte} (h1 : storageAt s a1 = some c1)
    (h2 : storageAt s a2 = some c2) (v1 v2 : Byte) (g : Regs) {a : Word} (ha1 : storageAt s a ≠ some c1)
    (ha2 : storageAt s a ≠ some c2) :
    memRead (memWrite ((memWrite s a1 v1).setRegs g) a2 v2) a = memRead s a := by
  have hkeep (b : Word) : storageAt ((memWrite s a1 v1).setRegs g) b = storageAt s b := storageAt_memWrite h1 v1 b
  rw [memRead_memWrite_other ((hkeep a2).trans h2) v2 (by rwa [hkeep])]
  exact memRead_memWrite_other h1 v1 ha1

theorem push16_regs (u : State) (v : Word) : (push16 u v).regs = { u.regs with sp := u.regs.sp - 2 } := by
  rw [push16_eq]
  simp [State.setSp]

theorem keepsControl_trans {u : State} (h : keepsControl s t) (k : keepsControl t u) : keepsControl s u := by
  obtain ⟨h1, h2, h3, h4, h5, h6, h7, h8, h9, h10, h11, h12, h13⟩ := h
  obtain ⟨k1, k2, k3, k4, k5, k6, k7, k8, k9, k10, k11, k12, k13⟩ := k
  exact ⟨k1.trans h1, k2.trans h2, k3.trans h3, k4.trans h4, k5.trans h5, k6.trans h6, k7.trans h7, k8.trans h8,
    k9.trans h9, k10.trans h10, k11.trans h11, k12.trans h12, k13.trans h13⟩

/-- A store, with the registers replaced before it. -/
theorem memWrite_keepsControl (u : State) (g : Regs) (a : Word) (v : Byte) :
    keepsControl u (memWrite (u.setRegs g) a v) := by
  have h := BusKeeps.control (memWrite_keeps (u.setRegs g) a v)
  exact h

theorem push16_keepsControl (u : State) (v : Word) : keepsControl u (push16 u v) := by
  rw [push16_eq]
  exact keepsControl_trans (memWrite_keepsControl u _ _ _) (memWrite_keepsControl _ _ _ _)

theorem memRead_push16_other (u : State) (v : Word) {c1 c2 : StorageByte} (h1 : storageAt u (u.regs.sp - 2) = some c1)
    (h2 : storageAt u (u.regs.sp - 1) = some c2) {a : Word} (ha1 : storageAt u a ≠ some c1)
    (ha2 : storageAt u a ≠ some c2) : memRead (push16 u v) a = memRead u a := by
  rw [push16_eq]
  exact memRead_two_stores (s := u.setSp (u.regs.sp - 1)) h2 h1 _ _ _ ha2 ha1

/-- The forms that push: the return address or a pair, PC moved or not. -/
theorem exec_pushes {i : Instr} {r : Rp2} {cc : Cond} {nn : Word} {v : RstVec}
    (h : i = Instr.push r ∨ i = .call_a16 nn ∨ i = Instr.rst v ∨
      i = Instr.callCC cc nn ∧ condHolds (flagsOf s.regs.f) cc = true) :
    (∃ len cost w pc, exec i s = .next (((push16 (ran s len 0) w).setPc pc).addCycles cost)) ∧
      ∀ nn', i ≠ .ld_atA16_sp nn' := by
  obtain rfl | rfl | rfl | ⟨rfl, hcc⟩ := h
  · refine ⟨⟨1, 16, s.regs.getRp2 r, (push16 (ran s 1 0) (s.regs.getRp2 r)).regs.pc, ?_⟩, by cases r <;> nofun⟩
    exact (exec_push s r).trans (opPush_eq s r)
  · exact ⟨⟨_, _, _, _, opCall_eq s nn⟩, nofun⟩
  · exact ⟨⟨_, _, _, _, (exec_rst s v).trans (opRst_eq s v)⟩, by cases v <;> nofun⟩
  · refine ⟨⟨3, 24, (ran s 3 0).regs.pc, nn, ?_⟩, by cases cc <;> nofun⟩
    rw [exec_callCC, opCallCC_eq, if_pos hcc]

theorem pushed_frame {len cost : Nat} {w pc : Word} (ht : t = ((push16 (ran s len 0) w).setPc pc).addCycles cost) :
    keepsRegs s t [] ∧ t.regs.f = s.regs.f ∧ keepsControl s t ∧ t.regs.sp = s.regs.sp - 2 := by
  have hregs := push16_regs (ran s len 0) w
  have hcontrol := push16_keepsControl (ran s len 0) w
  generalize push16 (ran s len 0) w = p at ht hregs hcontrol
  subst ht
  have hregs' : ((p.setPc pc).addCycles cost).regs = { (ran s len 0).regs with sp := s.regs.sp - 2, pc := pc } :=
    congrArg (fun g : Regs => { g with pc := pc }) hregs
  rw [hregs']
  exact ⟨keepsRegs_nil fun q => by rw [hregs']; cases q <;> rfl, rfl, hcontrol, rfl⟩

theorem memRead_pushed_other {len cost : Nat} {w pc : Word} {c1 c2 : StorageByte}
    (h1 : storageAt s (s.regs.sp - 2) = some c1) (h2 : storageAt s (s.regs.sp - 1) = some c2) {a : Word} (h4 : a ≠ 0xFF04)
    (h5 : a ≠ 0xFF05) (ha1 : storageAt s a ≠ some c1) (ha2 : storageAt s a ≠ some c2) :
    memRead (((push16 (ran s len 0) w).setPc pc).addCycles cost) a = memRead s a := by
  have hread := memRead_push16_other (ran s len 0) w h1 h2 (a := a) ha1 ha2
  generalize push16 (ran s len 0) w = p at hread ⊢
  exact (memRead_counter (p.setPc pc) _ h4 h5).trans hread

/-- LD (a16),SP. -/
theorem storeSp_frame {nn : Word} (ht : t = (memWrite16 (ran s 3 0) nn s.regs.sp).addCycles 20) :
    t.regs = (ran s 3 0).regs ∧ keepsControl s t := by
  have hregs : (memWrite16 (ran s 3 0) nn s.regs.sp).regs = (ran s 3 0).regs := by simp [memWrite16]
  have hcontrol : keepsControl (ran s 3 0) (memWrite16 (ran s 3 0) nn s.regs.sp) :=
    keepsControl_trans (BusKeeps.control (memWrite_keeps ..)) (BusKeeps.control (memWrite_keeps ..))
  generalize memWrite16 (ran s 3 0) nn s.regs.sp = p at ht hregs hcontrol
  subst ht
  exact ⟨hregs, hcontrol⟩

theorem memRead_storeSp_other {nn : Word} {c1 c2 : StorageByte} (h1 : storageAt s nn = some c1)
    (h2 : storageAt s (nn + 1) = some c2) {a : Word} (h4 : a ≠ 0xFF04) (h5 : a ≠ 0xFF05) (ha1 : storageAt s a ≠ some c1)
    (ha2 : storageAt s a ≠ some c2) :
    memRead ((memWrite16 (ran s 3 0) nn s.regs.sp).addCycles 20) a = memRead s a := by
  have hread : memRead (memWrite16 (ran s 3 0) nn s.regs.sp) a = memRead (ran s 3 0) a :=
    memRead_two_stores (s := ran s 3 0) h1 h2 _ _ _ ha1 ha2
  generalize memWrite16 (ran s 3 0) nn s.regs.sp = p at hread ⊢
  exact (memRead_counter p _ h4 h5).trans hread

end

/-- Settles O39. -/
theorem wordStoreFrame : Obligations.WordStoreFrame := by
  unfold Obligations.WordStoreFrame
  rintro s t i lo hi r cc nn v (⟨rfl, rfl, hi⟩ | ⟨rfl, rfl, rfl⟩) hexec
  · obtain ⟨⟨len, cost, w, pc, hnext⟩, hne⟩ := exec_pushes hi
    obtain rfl := Host.Outcome.next.inj (hnext.symm.trans hexec)
    obtain ⟨hregs, hf, hcontrol, hsp⟩ := pushed_frame (s := s) (len := len) (w := w) (pc := pc) (cost := cost) rfl
    rw [if_neg (hne nn)]
    exact ⟨hregs, hf, hcontrol, hsp,
      fun c1 c2 h1 h2 a h4 h5 ha1 ha2 => memRead_pushed_other h1 h2 h4 h5 ha1 ha2⟩
  · obtain ht := (Host.Outcome.next.inj hexec).symm
    obtain ⟨hregs, hcontrol⟩ := storeSp_frame (s := s) (nn := lo) ht
    rw [if_pos rfl, hregs]
    exact ⟨keepsRegs_nil fun q => by rw [hregs]; cases q <;> rfl, rfl, hcontrol, rfl,
      fun c1 c2 h1 h2 a h4 h5 ha1 ha2 => ht ▸ memRead_storeSp_other h1 h2 h4 h5 ha1 ha2⟩

end Sys2Proof.Proofs
end

section
/-! SUPPORT and proofs of O41, O48, O49, O50 and O51. The interrupt dispatch, the timer and divider, the serial port, the
joypad and the DMA engines: the one next state of each, as the statements write it. -/

namespace Sys2Proof.Proofs

open Sys2Proof.Machine

/-! ## The interrupt dispatch (60_exceptions R1120, R1121) -/

theorem lowestIrq_lt (p : Byte) : lowestIrq p < 5 := by
  unfold lowestIrq
  repeat' split
  all_goals decide

theorem lowestIrq_first : ∀ p : Byte, p &&& 0x1F = p → p ≠ 0 →
    bit p (lowestIrq p) = true ∧ ∀ j < lowestIrq p, bit p j = false := by decide

theorem pendingIrqs_low (s : State) : pendingIrqs s &&& 0x1F = pendingIrqs s := by
  rw [pendingIrqs, BitVec.and_assoc, BitVec.and_self]

theorem clearBit_eq (v : Byte) : ∀ k < 5, setBit v k false = v &&& ~~~((1 : Byte) <<< k) := by
  have hpow : ∀ k < 5, BitVec.ofNat 8 (2 ^ k) = (1 : Byte) <<< k := by decide
  intro k hk
  rw [← hpow k hk]
  rfl

theorem push16_steps (u : State) (v : Word) : push16 u v =
    memWrite { memWrite { u with regs := { u.regs with sp := u.regs.sp - 1 } } (u.regs.sp - 1) (highByte v) with
      regs := { u.regs with sp := u.regs.sp - 2 } } (u.regs.sp - 2) (lowByte v) := by
  have hregs := (memWrite_keeps { u with regs := { u.regs with sp := u.regs.sp - 1 } } (u.regs.sp - 1) (highByte v)).regs
  rw [push16_eq]
  have hfirst : u.setSp (u.regs.sp - 1) = { u with regs := { u.regs with sp := u.regs.sp - 1 } } := rfl
  rw [hfirst, State.setSp, hregs]
  rfl

theorem takeInterrupt_eq (k : Nat) (s : State) : takeInterrupt k s =
    { push16 { s.setIo 0x0F (setBit (s.ioByte 0x0F) k false) with ime := false } s.regs.pc with
      regs := { s.regs with sp := s.regs.sp - 2, pc := BitVec.ofNat 16 (0x40 + 8 * k) }
      counter := s.counter + 20 } := by
  have hregs := push16_regs { s.setIo 0x0F (setBit (s.ioByte 0x0F) k false) with ime := false } s.regs.pc
  have hcounter : (push16 { s.setIo 0x0F (setBit (s.ioByte 0x0F) k false) with ime := false } s.regs.pc).counter =
      s.counter := by simp [push16, push8]
  have htake : takeInterrupt k s =
      ((push16 { s.setIo 0x0F (setBit (s.ioByte 0x0F) k false) with ime := false } s.regs.pc).setPc (vectorOf k)).addCycles
        20 := rfl
  rw [htake]
  generalize push16 _ _ = p at hregs hcounter ⊢
  rw [State.setPc, hregs, State.addCycles, State.setRegs, hcounter]
  rfl

theorem interruptCheck_dispatches {s : State} (hp : pendingIrqs s ≠ 0) (hime : s.ime = true) : interruptCheck s =
    processEvents (takeInterrupt (lowestIrq (pendingIrqs s)) { s with halted := false }) := by
  rw [interruptCheck, if_neg hp]
  exact if_pos hime

/-- Settles O41. -/
theorem interruptCheckAndDispatch : Obligations.InterruptCheckAndDispatch := by
  unfold Obligations.InterruptCheckAndDispatch
  intro s p hp
  obtain rfl : p = pendingIrqs s := hp
  refine ⟨fun h => if_pos h, fun h hime => ?wakes, fun h hime => ?dispatches⟩
  case wakes =>
    rw [interruptCheck, if_neg h]
    exact if_neg (by simp [hime])
  case dispatches =>
    have hk := lowestIrq_lt (pendingIrqs s)
    obtain ⟨hset, hfirst⟩ := lowestIrq_first _ (pendingIrqs_low s) h
    refine ⟨lowestIrq (pendingIrqs s), hk, hset, hfirst, _, _, _, rfl, rfl, rfl, ?_⟩
    rw [interruptCheck_dispatches h hime, takeInterrupt_eq, push16_steps, clearBit_eq _ _ hk]
    rfl

/-! ## The timer and divider (60_exceptions R1150 to R1153) -/

theorem timerPeriod_eq : ∀ tac : Byte, timerPeriod tac = if tac &&& 0x03 = 0x00 then 1024
    else if tac &&& 0x03 = 0x01 then 16 else if tac &&& 0x03 = 0x02 then 64 else 256 := by decide

/-- Settles O48. -/
theorem timerAndDivider : Obligations.TimerAndDivider := by
  unfold Obligations.TimerAndDivider
  intro s v d period tima hperiod htima
  obtain rfl : period = timerPeriod := hperiod.trans (funext fun tac => (timerPeriod_eq tac).symm)
  obtain rfl : tima = timaAt s s.counter := htima
  have hused (k : Nat) (h : unusedIo k = false) (hcgb : cgbOnlyIo k = false) := ioUnused_of_unusedIo (cgb := s.cgbMode) h (.inl hcgb)
  refine ⟨memRead_reg s (k := 0x04) rfl (by decide) (hused _ rfl rfl), ?divWrite,
    memRead_reg s (k := 0x05) rfl (by decide) (hused _ rfl rfl), ?timaWrite, ?tmaWrite, ?tacWrite, rfl⟩
  case divWrite => exact memWrite_reg s (k := 0x04) v rfl (by decide) (hused _ rfl rfl)
  case tmaWrite => exact memWrite_reg s (k := 0x06) v rfl (by decide) (hused _ rfl rfl)
  case tacWrite => exact memWrite_reg s (k := 0x07) v rfl (by decide) (hused _ rfl rfl)
  case timaWrite =>
    rw [memWrite_reg s (k := 0x05) v rfl (by decide) (hused _ rfl rfl)]
    change writeTima s v = _
    unfold writeTima timerDeadline timerActive
    dsimp only
    split
    next hrun => rfl
    next => rfl

/-! ## The serial port (60_exceptions R1170) -/

/-- SB, SC and IF are stored in turn. -/
theorem serialEvent_ioByte (s : State) (j : Nat) : (serialEvent s).ioByte j =
    if j = 0x0F then s.ioByte 0x0F ||| 0x08 else if j = 0x02 then s.ioByte 0x02 &&& 0x7F
    else if j = 0x01 then 0xFF else s.ioByte j := by
  unfold serialEvent requestIrq State.ioByte State.setIo
  simp only [Memory.read_write, Nat.reduceEqDiff, if_false]
  rfl

/-- Settles O49. -/
theorem serialTransfers : Obligations.SerialTransfers := by
  unfold Obligations.SerialTransfers
  intro s t v d
  have hused (k : Nat) (h : unusedIo k = false) (hcgb : cgbOnlyIo k = false) := ioUnused_of_unusedIo (cgb := s.cgbMode) h (.inl hcgb)
  refine ⟨?sc, memWrite_reg s (k := 0x01) v rfl (by decide) (hused _ rfl rfl), ?completion⟩
  case sc =>
    rw [memWrite_reg s (k := 0x02) v rfl (by decide) (hused _ rfl rfl)]
    change writeSc s v = _
    simp only [writeSc, Bool.and_eq_true]
    rfl
  case completion =>
    rintro rfl
    have hbyte := serialEvent_ioByte s
    refine ⟨hbyte 0x01, hbyte 0x02, hbyte 0x0F, fun k h1 h2 hf => ?_, serialEvent_only s⟩
    exact (hbyte k).trans (by rw [if_neg hf, if_neg h2, if_neg h1])

/-! ## The joypad (10_state R63, 60_exceptions R1180) -/

/-- Bits 3-0 set one by one read back one by one. -/
theorem bit_setLines : ∀ b0 b1 b2 b3 : Bool,
    bit (setBit (setBit (setBit (setBit 0x0F 0 b0) 1 b1) 2 b2) 3 b3) 0 = b0 ∧
    bit (setBit (setBit (setBit (setBit 0x0F 0 b0) 1 b1) 2 b2) 3 b3) 1 = b1 ∧
    bit (setBit (setBit (setBit (setBit 0x0F 0 b0) 1 b1) 2 b2) 3 b3) 2 = b2 ∧
    bit (setBit (setBit (setBit (setBit 0x0F 0 b0) 1 b1) 2 b2) 3 b3) 3 = b3 := by decide

/-- The computed lines stand in bits 3-0, the stored byte in the others. -/
theorem bit_mergeBits_low4 (old v : Byte) : bit (mergeBits old v 0x0F) 0 = bit v 0 ∧ bit (mergeBits old v 0x0F) 1 = bit v 1 ∧
    bit (mergeBits old v 0x0F) 2 = bit v 2 ∧ bit (mergeBits old v 0x0F) 3 = bit v 3 ∧
    bit (mergeBits old v 0x0F) 4 = bit old 4 ∧ bit (mergeBits old v 0x0F) 5 = bit old 5 := by
  simp [bit, mergeBits]

theorem bit_readback_joyp (s : State) : bit (readback s 0x00) 4 = bit (s.ioByte 0x00) 4 ∧
    bit (readback s 0x00) 5 = bit (s.ioByte 0x00) 5 := by
  unfold readback
  split
  · simp [bit, ioReadMask]
  · exact ⟨rfl, rfl⟩

/-- Settles O50. -/
theorem joypadLinesAndInput : Obligations.JoypadLinesAndInput := by
  unfold Obligations.JoypadLinesAndInput
  rintro s v k _ _ _ rfl rfl rfl
  have hused : ioUnused s.cgbMode 0x00 = false := ioUnused_of_unusedIo rfl (.inl rfl)
  have hread : memRead s 0xFF00 = mergeBits (readback s 0x00) (joypLines s) 0x0F :=
    memRead_reg s (k := 0x00) rfl (by decide) hused
  obtain ⟨h0, h1, h2, h3, h4, h5⟩ := bit_mergeBits_low4 (readback s 0x00) (joypLines s)
  obtain ⟨l0, l1, l2, l3⟩ := bit_setLines
    (!(!bit (s.ioByte 0x00) 4 && s.host.buttons.right || !bit (s.ioByte 0x00) 5 && s.host.buttons.a))
    (!(!bit (s.ioByte 0x00) 4 && s.host.buttons.left || !bit (s.ioByte 0x00) 5 && s.host.buttons.b))
    (!(!bit (s.ioByte 0x00) 4 && s.host.buttons.up || !bit (s.ioByte 0x00) 5 && s.host.buttons.select))
    (!(!bit (s.ioByte 0x00) 4 && s.host.buttons.down || !bit (s.ioByte 0x00) 5 && s.host.buttons.start))
  obtain ⟨r4, r5⟩ := bit_readback_joyp s
  rw [hread]
  refine ⟨h0.trans l0, h1.trans l1, h2.trans l2, h3.trans l3, h4.trans r4, h5.trans r5, ?write, fun h => if_pos h,
    fun h => if_neg (by simp [h]), rfl, consumeInput_noInput, fun h => if_pos h⟩
  case write => exact memWrite_reg s (k := 0x00) v rfl (by decide) hused

/-! ## OAM DMA (20_memory R240) -/

theorem joinWord_toNat (h l : Byte) : (joinWord h l).toNat = h.toNat * 256 + l.toNat := by
  rw [joinWord, BitVec.toNat_append, ← Nat.shiftLeft_add_eq_or_of_lt l.isLt, Nat.shiftLeft_eq]

/-- The source addresses of a DMA from page `v`. -/
theorem dmaSource_eq (v : Byte) {i : Nat} (hi : i < 160) :
    joinWord v 0 + BitVec.ofNat 16 i = joinWord v (BitVec.ofNat 8 i) := by
  have hv := v.isLt
  apply BitVec.eq_of_toNat_eq
  have hpage : (joinWord v 0).toNat = v.toNat * 256 := by
    rw [joinWord_toNat]
    exact Nat.add_zero _
  rw [BitVec.toNat_add, hpage, joinWord_toNat, BitVec.toNat_ofNat, BitVec.toNat_ofNat]
  omega

section
variable (s : State) (v : Byte)

/-- The copies of the first `n` bytes: each is the byte the bus read before any of them, since a source in OAM is the very
byte it is copied to. -/
theorem oamDma_reads (n : Nat) (hn : n ≤ 160) :
    (∀ i, i < n → (oamDma v n s).oam.read i = memRead s (joinWord v (BitVec.ofNat 8 i))) ∧
    (∀ i, n ≤ i → (oamDma v n s).oam.read i = s.oam.read i) := by
  induction n with
  | zero => exact ⟨nofun, fun _ _ => rfl⟩
  | succ n ih =>
    obtain ⟨hdone, hrest⟩ := ih (by omega)
    have hsource : memRead (oamDma v n s) (joinWord v (BitVec.ofNat 8 n)) = memRead s (joinWord v (BitVec.ofNat 8 n)) := by
      rw [oamDma_only, memRead_oam]
      cases hp : placeOf s (joinWord v (BitVec.ofNat 8 n)) with
      | oam k =>
        obtain ⟨ha, hlast⟩ := toNat_of_placeOf_oam s hp
        rw [joinWord_toNat, BitVec.toNat_ofNat] at ha hlast
        obtain rfl : k = n := by omega
        exact (hrest k le_rfl).trans (memRead_of_place s hp).symm
      | _ => rfl
    have hoam : (oamDma v (n + 1) s).oam = (oamDma v n s).oam.write n (memRead s (joinWord v (BitVec.ofNat 8 n))) := by
      rw [← hsource, ← dmaSource_eq v (by omega : n < 160)]
      rfl
    refine ⟨fun i hi => ?copied, fun i hi => ?kept⟩
    case copied =>
      rw [hoam, Memory.read_write]
      split
      next h => rw [h]
      next h => exact hdone i (by omega)
    case kept => rw [hoam, Memory.read_write_other _ _ (by omega), hrest i (by omega)]

/-! ## HDMA (20_memory R241, R242) -/

/-- The VRAM byte of an HDMA block's `i`-th byte. -/
theorem hdmaTarget_copy (n i : Nat) : hdmaTarget (hdmaCopy n s) i = hdmaTarget s i := by
  rw [hdmaCopy_only]
  rfl

theorem hdmaCopy_hdma (n : Nat) : (hdmaCopy n s).hdma = s.hdma := by rw [hdmaCopy_only]

theorem hdmaCopy_succ (n : Nat) : hdmaCopy (n + 1) s = { hdmaCopy n s with
    vram := (hdmaCopy n s).vram.write (hdmaTarget s n) (memRead (hdmaCopy n s) (s.hdma.src + BitVec.ofNat 16 n)) } := by
  have hread : memRead (hdmaCopy n s) ((hdmaCopy n s).hdma.src + BitVec.ofNat 16 n) =
      memRead (hdmaCopy n s) (s.hdma.src + BitVec.ofNat 16 n) := by rw [hdmaCopy_hdma]
  have hcopy : hdmaCopy (n + 1) s = { hdmaCopy n s with
      vram := (hdmaCopy n s).vram.write (hdmaTarget (hdmaCopy n s) n)
        (memRead (hdmaCopy n s) ((hdmaCopy n s).hdma.src + BitVec.ofNat 16 n)) } := rfl
  rw [hcopy, hdmaTarget_copy, hread]

theorem hdmaTarget_injective {i j : Nat} (hi : i < 16) (hj : j < 16) (h : hdmaTarget s i = hdmaTarget s j) : i = j := by
  unfold hdmaTarget at h
  omega

theorem hdmaCopy_other {n k : Nat} (hk : ∀ i, i < n → k ≠ hdmaTarget s i) : (hdmaCopy n s).vram.read k = s.vram.read k := by
  induction n with
  | zero => rfl
  | succ n ih =>
    rw [hdmaCopy_succ]
    exact (Memory.read_write_other _ _ (hk n (by omega))).trans (ih fun i hi => hk i (by omega))

/-- A source outside VRAM reads the same throughout the block. -/
theorem memRead_hdmaCopy {a : Word} (ha : a.toNat < 0x8000 ∨ 0xA000 ≤ a.toNat) (n : Nat) :
    memRead (hdmaCopy n s) a = memRead s a := by
  rw [hdmaCopy_only, memRead_vram]
  cases hp : placeOf s a with
  | vram k =>
    have := toNat_of_placeOf_vram s hp
    omega
  | _ => rfl

theorem hdmaCopy_reads {n : Nat} (hn : n ≤ 16) (hsrc : ∀ i : Nat, i < 16 →
      (s.hdma.src + BitVec.ofNat 16 i).toNat < 0x8000 ∨ 0xA000 ≤ (s.hdma.src + BitVec.ofNat 16 i).toNat) :
    ∀ i, i < n → (hdmaCopy n s).vram.read (hdmaTarget s i) = memRead s (s.hdma.src + BitVec.ofNat 16 i) := by
  induction n with
  | zero => exact nofun
  | succ n ih =>
    intro i hi
    rw [hdmaCopy_succ, memRead_hdmaCopy s (hsrc n (by omega))]
    refine (Memory.read_write ..).trans ?_
    split
    next h =>
      obtain rfl := hdmaTarget_injective s (by omega) (by omega) h
      rfl
    next h =>
      have hne : i ≠ n := fun heq => h (by rw [heq])
      exact ih (by omega) i (by omega)

theorem hdmaBlock_vram : (hdmaBlock s).vram = (hdmaCopy 16 s).vram := by
  unfold hdmaBlock
  generalize hdmaCopy 16 s = t
  rfl

theorem hdmaBlocks_iterate (n : Nat) (s : State) : hdmaBlocks n s = hdmaBlock^[n] s := by
  induction n generalizing s with
  | zero => rfl
  | succ n ih => exact ih (hdmaBlock s)

theorem writeHdmaSrc_eq (k : Nat) : writeHdmaSrc s k v = { s.setIo k v with
    hdma := { s.hdma with src := if s.hdma.active then s.hdma.src else hdmaSource (s.setIo k v) } } := by
  have hactive : (s.setIo k v).hdma.active = s.hdma.active := rfl
  unfold writeHdmaSrc
  dsimp only
  rw [hactive]
  split
  · rfl
  · rfl

theorem hdmaLength_eq : v.toNat % 128 + 1 = field v 6 0 + 1 := by simp [field]

/-- An HDMA5 write: stop the active transfer, run a general-purpose one or start an HBlank one. -/
theorem writeHdma5_eq {n : Nat} (hn : n = field v 6 0 + 1) : writeHdma5 s v =
    if s.hdma.active = true ∧ bit v 7 = false then { s with hdma := { s.hdma with active := false } }
    else if bit v 7 = false then { hdmaBlock^[n] s with hdma := { (hdmaBlock^[n] s).hdma with remaining := 0 } }
    else { s with hdma := { s.hdma with remaining := n, active := true } } := by
  subst hn
  unfold writeHdma5
  dsimp only
  rw [hdmaBlocks_iterate]
  generalize hdmaBlock^[_] s = t
  simp only [Bool.and_eq_true, Bool.not_eq_true']

theorem hdma5Read_active {h : Hdma} (hon : h.active = true) (hlo : 1 ≤ h.remaining) (hhi : h.remaining ≤ 128) :
    hdma5Read h = BitVec.ofNat 8 (h.remaining - 1) := by
  rw [hdma5Read, if_pos hon]
  apply BitVec.eq_of_toNat_eq
  have hmask := toNat_and_lowBits (BitVec.ofNat 8 (h.remaining - 1)) 7 (by decide)
  refine hmask.trans ?_
  rw [BitVec.toNat_ofNat]
  omega

end

/-- Settles O51. -/
theorem dmaTransfers : Obligations.DmaTransfers := by
  unfold Obligations.DmaTransfers
  refine ⟨?oam, ?hdma⟩
  case oam =>
    intro s t v ht
    have hused : ioUnused s.cgbMode 0x46 = false := ioUnused_of_unusedIo rfl (.inl rfl)
    rw [memWrite_reg s (k := 0x46) v rfl (by decide) hused] at ht
    obtain rfl : t = oamDma v 160 (s.setIo 0x46 v) := ht
    obtain ⟨hcopied, hkept⟩ := oamDma_reads (s.setIo 0x46 v) v 160 le_rfl
    exact ⟨oamDma_only (s.setIo 0x46 v) v 160, hcopied, hkept⟩
  case hdma =>
    intro s t v target hcgb htarget
    obtain rfl : target = hdmaTarget s := htarget
    have hused (k : Nat) (h : unusedIo k = false) := ioUnused_of_unusedIo (cgb := s.cgbMode) h (.inr hcgb)
    have hwrite5 : memWrite s 0xFF55 v = _ :=
      (memWrite_reg s v rfl (by decide) (hused 0x55 rfl)).trans (writeHdma5_eq s v (hdmaLength_eq v))
    have hread5 : memRead s 0xFF55 = hdma5Read s.hdma := memRead_reg s rfl (by decide) (hused 0x55 rfl)
    refine ⟨?block, fun i => hdmaCopy_succ s i, ?hdma1, ?hdma2, ?hdma3, ?hdma4, ?stops, ?general, ?hblank, ?readActive, ?readIdle⟩
    case block =>
      rintro rfl
      rw [hdmaBlock_hdma, hdmaBlock_vram]
      refine ⟨?only, rfl, rfl, rfl, rfl, hdmaCopy_reads s le_rfl, fun k hk => hdmaCopy_other s hk⟩
      case only =>
        rw [← hdmaBlock_hdma, ← hdmaBlock_vram]
        exact hdmaBlock_only s
    case hdma1 =>
      have hsource : hdmaSource (s.setIo 0x51 v) = joinWord v (s.ioByte 0x52 &&& 0xF0) := by
        rw [hdmaSource, ioByte_setIo_same, ioByte_setIo_other s v (by decide)]
      rw [← hsource]
      exact (memWrite_reg s v rfl (by decide) (hused 0x51 rfl)).trans (writeHdmaSrc_eq s v 0x51)
    case hdma2 =>
      have hsource : hdmaSource (s.setIo 0x52 v) = joinWord (s.ioByte 0x51) (v &&& 0xF0) := by
        rw [hdmaSource, ioByte_setIo_same, ioByte_setIo_other s v (by decide)]
      rw [← hsource]
      exact (memWrite_reg s v rfl (by decide) (hused 0x52 rfl)).trans (writeHdmaSrc_eq s v 0x52)
    case hdma3 =>
      have hdest : hdmaDest (s.setIo 0x53 v) = 0x8000 ||| joinWord (v &&& 0x1F) (s.ioByte 0x54 &&& 0xF0) := by
        rw [hdmaDest, ioByte_setIo_same, ioByte_setIo_other s v (by decide)]
      rw [← hdest]
      exact memWrite_reg s v rfl (by decide) (hused 0x53 rfl)
    case hdma4 =>
      have hdest : hdmaDest (s.setIo 0x54 v) = 0x8000 ||| joinWord (s.ioByte 0x53 &&& 0x1F) (v &&& 0xF0) := by
        rw [hdmaDest, ioByte_setIo_same, ioByte_setIo_other s v (by decide)]
      rw [← hdest]
      exact memWrite_reg s v rfl (by decide) (hused 0x54 rfl)
    case stops =>
      intro hon h7
      rw [hwrite5, if_pos ⟨hon, h7⟩]
    case general =>
      intro hoff h7
      rw [hwrite5, if_neg (by simp [hoff]), if_pos h7]
    case hblank =>
      intro h7
      rw [hwrite5, if_neg (by simp [h7]), if_neg (by simp [h7])]
    case readActive => exact fun hon hlo hhi => (hread5.trans (hdma5Read_active hon hlo hhi))
    case readIdle => exact fun hoff => hread5.trans (if_neg (by simp [hoff]))

end Sys2Proof.Proofs
end

section
/-! SUPPORT and proof of O46. The RTC counts seconds (25_cartridge R344): each register counts its own unit over the count
of the next, and the day counter's wrap sets the carry bit. -/

namespace Sys2Proof.Proofs

open Sys2Proof.Machine

/-! ## What a tick adds -/

/-- The days, hours, minutes and seconds that the RTC registers stand for. -/
def dayCount (r : Rtc) : Nat := r.dl.toNat + 256 * (r.dh.toNat % 2)

def hourCount (r : Rtc) : Nat := r.h.toNat + 24 * dayCount r

def minuteCount (r : Rtc) : Nat := r.m.toNat + 60 * hourCount r

def secondCount (r : Rtc) : Nat := r.s.toNat + 60 * minuteCount r

/-- The registers that carry stand below their limit. -/
structure RtcInRange (r : Rtc) : Prop where
  s : r.s.toNat < 60
  m : r.m.toNat < 60
  h : r.h.toNat < 24

/-- From `r` to `t` a count that wraps at `period` went on by `n`, and the carry bit tells whether it wrapped. -/
structure CountsOn (count : Rtc → Nat) (period n : Nat) (r t : Rtc) : Prop where
  counted : count t = (count r + n) % period
  halt : bit t.dh 6 = bit r.dh 6
  carry : bit t.dh 7 = (bit r.dh 7 || decide (period ≤ count r + n))

theorem CountsOn.trans {count : Rtc → Nat} {period m n : Nat} {r t u : Rtc} (h : CountsOn count period m r t)
    (h' : CountsOn count period n t u) : CountsOn count period (m + n) r u := by
  have hmod := Nat.mod_add_div (count r + m) period
  refine ⟨?count, h'.halt.trans h.halt, ?carry⟩
  case count => rw [h'.counted, h.counted, Nat.mod_add_mod, Nat.add_assoc]
  case carry =>
    rw [h'.carry, h.carry, h.counted, Bool.or_assoc, ← Bool.decide_or, ← Nat.add_assoc]
    congr 2
    refine propext ⟨fun hwrap => ?_, fun hwrap => ?_⟩
    · obtain hwrap | hwrap := hwrap
      · omega
      · have := Nat.mod_le (count r + m) period
        omega
    · obtain hlt | hge := Nat.lt_or_ge (count r + m) period
      · rw [Nat.mod_eq_of_lt hlt]
        exact .inr hwrap
      · exact .inl hge

theorem dayCount_lt (r : Rtc) : dayCount r < 512 := by
  have := r.dl.isLt
  unfold dayCount
  omega

/-- DH after the wrap of the day counter, and before it. -/
theorem dh_wrapped : ∀ dh : Byte, ((dh &&& 0xFE) ||| 0x80).toNat % 2 = 0 ∧
    bit ((dh &&& 0xFE) ||| 0x80) 6 = bit dh 6 ∧ bit ((dh &&& 0xFE) ||| 0x80) 7 = true := by decide +kernel

theorem dh_counted : ∀ dh : Byte, ∀ n, n < 2 → ((dh &&& 0xFE) ||| BitVec.ofNat 8 n).toNat % 2 = n ∧
    bit ((dh &&& 0xFE) ||| BitVec.ofNat 8 n) 6 = bit dh 6 ∧
    bit ((dh &&& 0xFE) ||| BitVec.ofNat 8 n) 7 = bit dh 7 := by decide +kernel

theorem nextDay_countsOn (r : Rtc) : CountsOn dayCount 512 1 r r.nextDay := by
  have hlt := dayCount_lt r
  obtain hwrap | hgoes : dayCount r + 1 = 512 ∨ dayCount r + 1 < 512 := by omega
  · have hnext : r.nextDay = { r with dl := 0, dh := (r.dh &&& 0xFE) ||| 0x80 } := if_pos hwrap
    obtain ⟨hday, hhalt, hcarry⟩ := dh_wrapped r.dh
    rw [hnext]
    refine ⟨?_, hhalt, ?_⟩
    · rw [hwrap]
      exact congrArg (0 + 256 * ·) hday
    · rw [hwrap, decide_eq_true le_rfl, Bool.or_true]
      exact hcarry
  · have hnext : r.nextDay = { r with
        dl := BitVec.ofNat 8 (dayCount r + 1)
        dh := (r.dh &&& 0xFE) ||| BitVec.ofNat 8 ((dayCount r + 1) / 256) } := if_neg (Nat.ne_of_lt hgoes)
    obtain ⟨hday, hhalt, hcarry⟩ := dh_counted r.dh ((dayCount r + 1) / 256) (by omega)
    rw [hnext]
    refine ⟨?_, hhalt, ?_⟩
    · rw [Nat.mod_eq_of_lt hgoes]
      change (BitVec.ofNat 8 (dayCount r + 1)).toNat + 256 * _ = _
      rw [hday, BitVec.toNat_ofNat]
      omega
    · rw [decide_eq_false (Nat.not_le.mpr hgoes), Bool.or_false]
      exact hcarry

/-- A unit that stood at its last value starts again and the next unit counts on. -/
theorem CountsOn.of_carry {lower upper : Rtc → Nat} {digit : Rtc → Nat} {base period : Nat} {r r₀ t : Rtc}
    (hcount : ∀ q, lower q = digit q + base * upper q) (h : CountsOn upper period 1 r₀ t)
    (hlast : digit r + 1 = base) (hzero : digit t = 0) (hupper : upper r₀ = upper r) (hdh : r₀.dh = r.dh) :
    CountsOn lower (base * period) 1 r t := by
  have hsum : lower r + 1 = base * (upper r + 1) := by
    rw [hcount, Nat.mul_add, ← hlast]
    omega
  refine ⟨?count, hdh ▸ h.halt, ?carry⟩
  case count => rw [hsum, Nat.mul_mod_mul_left, hcount, hzero, h.counted, hupper, Nat.zero_add]
  case carry =>
    rw [h.carry, hsum, hupper, hdh]
    congr 2
    exact propext (Nat.mul_le_mul_left_iff (by omega)).symm

/-- A unit below its last value counts on by itself. -/
theorem CountsOn.of_digit {lower upper : Rtc → Nat} {digit : Rtc → Nat} {base period : Nat} {r t : Rtc}
    (hcount : ∀ q, lower q = digit q + base * upper q) (hlt : upper r < period)
    (hnext : digit r + 1 < base) (hdigit : digit t = digit r + 1) (hupper : upper t = upper r) (hdh : t.dh = r.dh) :
    CountsOn lower (base * period) 1 r t := by
  have hbelow : lower r + 1 < base * period := by
    have := Nat.mul_le_mul_left base (Nat.succ_le_of_lt hlt)
    rw [Nat.mul_succ] at this
    have := hcount r
    omega
  refine ⟨?count, congrArg (bit · 6) hdh, ?carry⟩
  case count =>
    rw [Nat.mod_eq_of_lt hbelow, hcount, hcount, hdigit, hupper]
    omega
  case carry => simp [hdh, Nat.not_le.mpr hbelow]

theorem hourCount_lt {r : Rtc} (h : r.h.toNat < 24) : hourCount r < 24 * 512 := by
  have := dayCount_lt r
  unfold hourCount
  omega

theorem minuteCount_lt {r : Rtc} (hm : r.m.toNat < 60) (hh : r.h.toNat < 24) : minuteCount r < 60 * (24 * 512) := by
  have := hourCount_lt hh
  unfold minuteCount
  omega

/-- The next value of a register that does not carry. -/
theorem toNat_nextDigit {d base width : Nat} (hd : d + 1 < base) (hbase : base ≤ width) (hwidth : width ≤ 256) :
    (BitVec.ofNat 8 ((d + 1) % width)).toNat = d + 1 := by
  rw [BitVec.toNat_ofNat, Nat.mod_eq_of_lt (by omega : d + 1 < width), Nat.mod_eq_of_lt (by omega)]

theorem nextDay_regs (r : Rtc) : r.nextDay.s = r.s ∧ r.nextDay.m = r.m ∧ r.nextDay.h = r.h := by
  unfold Rtc.nextDay
  dsimp only
  split
  · exact ⟨rfl, rfl, rfl⟩
  · exact ⟨rfl, rfl, rfl⟩

theorem nextHour_step {r : Rtc} (h : r.h.toNat < 24) : CountsOn hourCount (24 * 512) 1 r r.nextHour ∧
    r.nextHour.h.toNat < 24 ∧ r.nextHour.s = r.s ∧ r.nextHour.m = r.m := by
  unfold Rtc.nextHour
  split
  next hlast =>
    obtain ⟨hs, hm, hh⟩ := nextDay_regs { r with h := 0 }
    exact ⟨.of_carry (fun _ => rfl) (nextDay_countsOn { r with h := 0 }) hlast (congrArg BitVec.toNat hh) rfl rfl,
      by rw [hh]; exact Nat.zero_lt_succ _, hs, hm⟩
  next hne =>
    have hdigit := toNat_nextDigit (d := r.h.toNat) (base := 24) (width := 32) (by omega) (by decide) (by decide)
    exact ⟨.of_digit (fun _ => rfl) (dayCount_lt r) (by omega) hdigit rfl rfl, by rw [hdigit]; omega, rfl, rfl⟩

theorem nextMinute_step {r : Rtc} (hm : r.m.toNat < 60) (hh : r.h.toNat < 24) :
    CountsOn minuteCount (60 * (24 * 512)) 1 r r.nextMinute ∧
    r.nextMinute.m.toNat < 60 ∧ r.nextMinute.h.toNat < 24 ∧ r.nextMinute.s = r.s := by
  unfold Rtc.nextMinute
  split
  next hlast =>
    obtain ⟨hcounts, hh', hs, hm'⟩ := nextHour_step (r := { r with m := 0 }) hh
    exact ⟨.of_carry (fun _ => rfl) hcounts hlast (congrArg BitVec.toNat hm') rfl rfl, by rw [hm']; exact Nat.zero_lt_succ _, hh', hs⟩
  next hne =>
    have hdigit := toNat_nextDigit (d := r.m.toNat) (base := 60) (width := 64) (by omega) (by decide) (by decide)
    exact ⟨.of_digit (fun _ => rfl) (hourCount_lt hh) (by omega) hdigit rfl rfl, by rw [hdigit]; omega, hh, rfl⟩

theorem tick_step {r : Rtc} (hr : RtcInRange r) (hon : bit r.dh 6 = false) :
    CountsOn secondCount (60 * (60 * (24 * 512))) 1 r r.tick ∧ RtcInRange r.tick := by
  rw [Rtc.tick, hon, if_neg (by simp)]
  split
  next hlast =>
    obtain ⟨hcounts, hm, hh, hs⟩ := nextMinute_step (r := { r with s := 0 }) hr.m hr.h
    exact ⟨.of_carry (fun _ => rfl) hcounts hlast (congrArg BitVec.toNat hs) rfl rfl, by rw [hs]; exact Nat.zero_lt_succ _, hm, hh⟩
  next hne =>
    have hs := hr.s
    have hdigit := toNat_nextDigit (d := r.s.toNat) (base := 60) (width := 64) (by omega) (by decide) (by decide)
    exact ⟨.of_digit (fun _ => rfl) (minuteCount_lt hr.m hr.h) (by omega) hdigit rfl rfl, by rw [hdigit]; omega, hr.m, hr.h⟩

theorem secondCount_lt {r : Rtc} (hr : RtcInRange r) : secondCount r < 60 * (60 * (24 * 512)) := by
  have := minuteCount_lt hr.m hr.h
  have := hr.s
  unfold secondCount
  omega

/-- `n` ticks of a running clock count `n` seconds. -/
theorem ticks_step (n : Nat) {r : Rtc} (hr : RtcInRange r) (hon : bit r.dh 6 = false) :
    CountsOn secondCount (60 * (60 * (24 * 512))) n r (Rtc.ticks n r) ∧ RtcInRange (Rtc.ticks n r) := by
  induction n generalizing r with
  | zero =>
    have hlt := secondCount_lt hr
    exact ⟨⟨(Nat.mod_eq_of_lt hlt).symm, rfl, by simp [Nat.not_le.mpr hlt, Rtc.ticks]⟩, hr⟩
  | succ n ih =>
    obtain ⟨htick, hrange⟩ := tick_step hr hon
    obtain ⟨hrest, hend⟩ := ih hrange (htick.halt.trans hon)
    have hboth := htick.trans hrest
    rw [Nat.add_comm] at hboth
    exact ⟨hboth, hend⟩

theorem ticks_halted (n : Nat) {r : Rtc} (h : bit r.dh 6 = true) : Rtc.ticks n r = r := by
  induction n with
  | zero => rfl
  | succ n ih => rw [Rtc.ticks, Rtc.tick, if_pos h, ih]

theorem secondCount_eq (r : Rtc) : secondCount r =
    r.s.toNat + 60 * r.m.toNat + 3600 * r.h.toNat + 86400 * (r.dl.toNat + 256 * (r.dh.toNat % 2)) := by
  unfold secondCount minuteCount hourCount dayCount
  omega

/-! ## The RTC on the bus -/

section
variable {s : State} {a : Word} (v : Byte)

/-- Bank numbers 8 to 12 show the RTC registers (25_cartridge R342). -/
theorem cartRamTarget_rtc (off : Nat) {j : Nat} (hk : s.cart.kind = .mbc3) (hrtc : s.cart.hasRtc = true)
    (he : s.mapper.ramEnabled = true) (hj : j ≤ 4) (hb : s.mapper.ramBank = 8 + j) : cartRamTarget s off = .rtc j := by
  simp [cartRamTarget, hk, he, hrtc, hb, hj]

theorem cartRamTarget_pastRtc (off : Nat) (hk : s.cart.kind = .mbc3) (hb : 13 ≤ s.mapper.ramBank) :
    cartRamTarget s off = .absent := by
  have hbank : ¬ s.mapper.ramBank < 8 := by omega
  have hindex : ¬ s.mapper.ramBank - 8 ≤ 4 := by omega
  simp [cartRamTarget, hk, hbank, hindex]

/-- A write to the latch range (25_cartridge R340). -/
theorem memWrite_latch (hk : s.cart.kind = .mbc3) (hlo : 0x6000 ≤ a.toNat) (hhi : a.toNat ≤ 0x7FFF) :
    memWrite s a v = mbc3Latch s v := by
  rw [memWrite_rom s v (by omega), mbcWrite, hk]
  exact if_neg (by omega)

end

/-- Settles O46. -/
theorem realTimeClock : Obligations.RealTimeClock := by
  unfold Obligations.RealTimeClock
  refine ⟨?ticks, ?bus⟩
  case ticks =>
    rintro r _ n _ rfl rfl
    refine ⟨ticks_halted n, fun hon hs hm hh => ?_⟩
    obtain ⟨hcounts, hrange⟩ := ticks_step n ⟨hs, hm, hh⟩ hon
    have hvalue := hcounts.counted
    have hcarry := hcounts.carry
    simp only [secondCount_eq] at hvalue hcarry
    exact ⟨hvalue, hrange.s, hrange.m, hrange.h, hcounts.halt.trans hon, hcarry⟩
  case bus =>
    intro s a b v j secs unit hk hrtc hunit hsecs halo hahi hblo hbhi
    obtain rfl : unit = rtcUnitsPerSecond s.params.rtcUnit := hunit
    subst hsecs
    refine ⟨fun hprev => ?latch, fun hprev => ?records, fun he hj hb => ?register, fun _ hb =>
      window_absent v halo hahi rfl (cartRamTarget_pastRtc _ hk hb)⟩
    case latch =>
      rw [memWrite_latch 0x01 hk hblo hbhi]
      simp [mbc3Latch, hrtc, hprev, rtcSync]
    case records =>
      rw [memWrite_latch v hk hblo hbhi, mbc3Latch]
      rw [if_neg (fun ⟨hzero, hone, _⟩ => hprev.elim (· hzero) (· hone))]
    case register =>
      have htarget := cartRamTarget_rtc (a.toNat - 0xA000) hk hrtc he hj hb
      rw [memRead_cartRam s halo hahi, memWrite_cartRam s v halo hahi]
      simp only [cartRamRead, cartRamWrite, htarget]
      exact ⟨rfl, rfl⟩

end Sys2Proof.Proofs
end

section
/-! SUPPORT and proof of O47. The battery dump in three parts, and each part read back (25_cartridge R361, R363). -/

namespace Sys2Proof.Proofs

open Sys2Proof.Machine

/-! ## The parts of a dump -/

@[simp] theorem length_toBigEndian (n v : Nat) : (toBigEndian n v).length = n := by
  induction n generalizing v with
  | zero => rfl
  | succ n ih => rw [toBigEndian, List.length_append, ih, List.length_singleton]

theorem ofBigEndian_append (bytes : List Byte) (b : Byte) :
    ofBigEndian (bytes ++ [b]) = ofBigEndian bytes * 256 + b.toNat := by
  rw [ofBigEndian, List.foldl_append]
  rfl

theorem ofBigEndian_toBigEndian (n v : Nat) : ofBigEndian (toBigEndian n v) = v % 256 ^ n := by
  induction n generalizing v with
  | zero => exact (Nat.mod_one v).symm
  | succ n ih =>
    have hbyte : (BitVec.ofNat 8 v).toNat = v % 256 := BitVec.toNat_ofNat ..
    rw [toBigEndian, ofBigEndian_append, ih, hbyte, Nat.pow_succ', Nat.mod_mul, Nat.mul_comm, Nat.add_comm]

theorem rtc_ofBytes_toBytes {r : Rtc} (h : Rtc.wf r) : Rtc.ofBytes r.toBytes = r := by
  obtain ⟨hs, hm, hh, hdl, hdh⟩ := (rtc_wf_iff r).mp h
  change (⟨r.s &&& 0x3F, r.m &&& 0x3F, r.h &&& 0x1F, r.dl &&& 0xFF, r.dh &&& 0xC1⟩ : Rtc) = r
  rw [hs, hm, hh, hdl, hdh]

section
variable (s : State)

theorem length_dumpRam : (dumpRam s).length = dumpRamSize s.cart := by
  rw [dumpRam, List.length_map, List.length_range]

theorem length_exportDump : (exportDump s).length = dumpRamSize s.cart + 13 := by
  rw [exportDump, List.length_append, List.length_append, length_dumpRam, length_toBigEndian]
  rfl

theorem exportDump_take {n : Nat} (hn : n ≤ dumpRamSize s.cart) : (exportDump s).take n = (dumpRam s).take n := by
  rw [exportDump, List.append_assoc, List.take_append_of_le_length (hn.trans_eq (length_dumpRam s).symm)]

theorem exportDump_rtc : ((exportDump s).drop (dumpRamSize s.cart)).take 5 = (dumpRtc s).toBytes := by
  rw [exportDump, List.append_assoc, ← length_dumpRam, List.drop_left]
  exact List.take_left' rfl

theorem exportDump_time : (exportDump s).drop (dumpRamSize s.cart + 5) = toBigEndian 8 s.host.time := by
  refine List.drop_left' ?_
  rw [List.length_append, length_dumpRam]
  rfl

variable {s}

theorem dumpRtc_wf (h : Rtc.wf s.mapper.rtc) : Rtc.wf (dumpRtc s) := by
  unfold dumpRtc
  split
  · exact ticks_wf h _
  · exact h

/-- Without an MBC2 the RAM part lists the banks' bytes. -/
theorem getD_dumpRam {k : Nat} (hk : k < dumpRamSize s.cart) (hkind : s.cart.kind ≠ .mbc2) (d : Byte) :
    (dumpRam s).getD k d = s.cram.read k := by
  rw [dumpRam, List.getD_eq_getElem _ _ (by simpa using hk), List.getElem_map, List.getElem_range]
  cases h : s.cart.kind with
  | mbc2 => exact absurd h hkind
  | _ => rfl

/-- An MBC2's RAM part starts with its 512 cells. -/
theorem getD_dumpRam_mbc2 {k : Nat} (hk : k < dumpRamSize s.cart) (hcell : k < 512) (hkind : s.cart.kind = .mbc2)
    (d : Byte) : (dumpRam s).getD k d = s.cram.read k &&& 0x0F := by
  rw [dumpRam, List.getD_eq_getElem _ _ (by simpa using hk), List.getElem_map, List.getElem_range, hkind]
  exact if_pos hcell

end

/-! ## A dump loaded again -/

theorem importRam_plain {c : Cartridge} (h : c.kind ≠ .mbc2) (dump : List Byte) :
    importRam c dump = dump.take (dumpRamSize c) := by
  unfold importRam
  cases hk : c.kind with
  | mbc2 => exact absurd hk h
  | _ => rfl

theorem importRam_mbc2 {c : Cartridge} (h : c.kind = .mbc2) (dump : List Byte) :
    importRam c dump = (dump.take 512).map (· &&& 0x0F) := by
  rw [importRam, h]

/-- Settles O47. -/
theorem batteryDumpRoundTrip : Obligations.BatteryDumpRoundTrip := by
  unfold Obligations.BatteryDumpRoundTrip
  rintro s t _ hcart hrtc htime rfl
  have hlength : (exportDump s).length = dumpRamSize t.cart + 13 := hcart ▸ length_exportDump s
  rw [importDump, if_pos hlength, hcart]
  refine ⟨length_exportDump s, fun hkind k hk => ?plain, fun hkind hbanks k hk => ?mbc2, ?rtc, ?time, Memory.ofBytes_wf ..⟩
  case plain =>
    change (Memory.ofBytes _ _).read k = _
    rw [Memory.read_ofBytes, importRam_plain hkind, exportDump_take s le_rfl, ← length_dumpRam, List.take_length]
    exact getD_dumpRam hk hkind _
  case mbc2 =>
    have hsize : 512 ≤ dumpRamSize s.cart := by
      unfold dumpRamSize
      omega
    have hlen : k < ((dumpRam s).take 512).length := by
      rw [List.length_take, length_dumpRam]
      omega
    change (Memory.ofBytes _ _).read k = _
    rw [Memory.read_ofBytes, importRam_mbc2 hkind, exportDump_take s hsize,
      List.getD_eq_getElem _ _ (by simpa using hlen), List.getElem_map, List.getElem_take,
      ← List.getD_eq_getElem _ 0x00, getD_dumpRam_mbc2 (by omega) hk hkind, BitVec.and_assoc, BitVec.and_self]
  case rtc =>
    change Rtc.ofBytes _ = _
    rw [exportDump_rtc, rtc_ofBytes_toBytes (dumpRtc_wf hrtc)]
    rfl
  case time =>
    change ofBigEndian _ = _
    rw [exportDump_time, ofBigEndian_toBigEndian]
    exact Nat.mod_eq_of_lt htime

end Sys2Proof.Proofs
end

section
/-! SUPPORT and proof of O59. The sound generators and the mixer, bit by bit (55_apu R1040 to R1082). -/

namespace Sys2Proof.Proofs

open Sys2Proof.Machine

theorem wrap8_range (v : Int) : -128 ≤ wrap8 v ∧ wrap8 v ≤ 127 := by
  unfold wrap8
  omega

/-- The word whose one bit that may be set is bit `k`. -/
theorem getLsbD_bitOf (b : Bool) (k : Nat) (hk : k < 15) (j : Nat) :
    (if b then BitVec.twoPow 15 k else 0).getLsbD j = (b && decide (j = k)) := by
  cases b
  · simp
  · simp [BitVec.getLsbD_twoPow, hk, eq_comm]

/-- The shifted register before the 7-bit feedback. -/
def lfsrShift (x : BitVec 15) : BitVec 15 :=
  (x >>> 1) ||| if x.getLsbD 0 ^^ x.getLsbD 1 then BitVec.twoPow 15 14 else 0

theorem getLsbD_lfsrShift (x : BitVec 15) (j : Nat) : (lfsrShift x).getLsbD j =
    (x.getLsbD (j + 1) || ((x.getLsbD 0 ^^ x.getLsbD 1) && decide (j = 14))) := by
  rw [lfsrShift, BitVec.getLsbD_or, getLsbD_bitOf _ 14 (by decide), BitVec.getLsbD_ushiftRight, Nat.add_comm]

theorem lfsrStep_eq (w : Bool) (x : BitVec 15) : lfsrStep w x =
    if w then (lfsrShift x &&& ~~~BitVec.twoPow 15 6) ||| (if x.getLsbD 0 ^^ x.getLsbD 1 then BitVec.twoPow 15 6 else 0)
    else lfsrShift x := rfl

/-- One LFSR step, bit by bit (55_apu R1050). -/
theorem getLsbD_lfsrStep (w : Bool) (x : BitVec 15) {j : Nat} (hj : j < 15) : (lfsrStep w x).getLsbD j =
    if j = 14 ∨ w = true ∧ j = 6 then x.getLsbD 0 ^^ x.getLsbD 1 else x.getLsbD (j + 1) := by
  have hshift := getLsbD_lfsrShift x j
  rw [lfsrStep_eq]
  cases w with
  | false =>
    rw [if_neg (by simp), hshift]
    by_cases h14 : j = 14
    · simp [h14]
    · simp [h14]
  | true =>
    rw [if_pos rfl, BitVec.getLsbD_or, BitVec.getLsbD_and, getLsbD_bitOf _ 6 (by decide), hshift]
    by_cases h14 : j = 14
    · simp [h14]
    · by_cases h6 : j = 6
      · simp [h6]
      · simp [h14, h6, hj]

theorem mixSample_range (s : State) (v : Levels) : ∀ x ∈ mixSample s v, -128 ≤ x ∧ x ≤ 127 := by
  intro x hx
  unfold mixSample at hx
  dsimp only at hx
  split at hx
  · obtain rfl | rfl : x = _ ∨ x = _ := by simpa using hx
    · exact wrap8_range _
    · exact wrap8_range _
  · obtain rfl := List.mem_singleton.mp hx
    exact wrap8_range _

theorem waveNibble_eq (s : State) (i : Nat) : waveNibble s i =
    if i % 2 = 0 then (s.wave.read (i / 2)).toNat / 16 else (s.wave.read (i / 2)).toNat % 16 := by
  have hlt := (s.wave.read (i / 2)).isLt
  unfold waveNibble field
  split
  next => simp; omega
  next => simp

/-- Settles O59. -/
theorem generatorsAndMixer : Obligations.GeneratorsAndMixer := by
  unfold Obligations.GeneratorsAndMixer
  refine ⟨by decide, ?lfsr, fun v => ?wrap, fun s i _ => waveNibble_eq s i, fun s => ?silent, fun _ _ _ _ => ⟨rfl, rfl, rfl⟩,
    mixSample_range⟩
  case lfsr =>
    rintro w x _ rfl
    refine ⟨?_, ?_, fun j hj h6 => ?_⟩
    · rw [getLsbD_lfsrStep w x (by decide), if_pos (.inl rfl)]
    · rw [getLsbD_lfsrStep w x (by decide)]
      simp
    · rw [getLsbD_lfsrStep w x (by omega), if_neg (by omega)]
  case wrap =>
    obtain ⟨hlo, hhi⟩ := wrap8_range v
    refine ⟨hlo, hhi, ?_⟩
    unfold wrap8
    omega
  case silent =>
    exact ⟨fun h => if_neg (by simp [h]), fun h => if_neg (by simp [h]), fun h => if_neg (by simp [h]),
      fun h => if_neg (by simp [h])⟩

end Sys2Proof.Proofs
end

section
/-! SUPPORT and proof of O60. How a run ends: only an undefined opcode changes the fault or RUNNING in a step
(60_exceptions R1130), and what the host's calls do (R1190, 70_reset R1200). -/

namespace Sys2Proof.Proofs

open Sys2Proof.Machine

section
variable {s t : State}

/-! ## The fault and RUNNING through a step -/

theorem consumeInput_runPart (s : State) : runPart (consumeInput s) = runPart s := by
  unfold consumeInput
  split
  · rfl
  · rfl

theorem processDue_runPart (n : Nat) (s : State) : runPart (processDue n s) = runPart s := by
  induction n generalizing s with
  | zero => rfl
  | succ n ih =>
    unfold processDue
    split
    next d k _ =>
      split
      · have hevent := runEvent_eventKeeps s k d
        exact (ih _).trans (Prod.ext hevent.fault hevent.running)
      · rfl
    next => rfl

theorem processEvents_runPart (s : State) : runPart (processEvents s) = runPart s := processDue_runPart _ s

theorem takeInterrupt_runPart (k : Nat) (s : State) : runPart (takeInterrupt k s) = runPart s := by
  rw [takeInterrupt_eq]
  exact push16_runPart _ _

theorem interruptCheck_runPart (s : State) : runPart (interruptCheck s) = runPart s := by
  unfold interruptCheck
  dsimp only
  split
  · rfl
  · split
    · exact (processEvents_runPart _).trans (takeInterrupt_runPart _ _)
    · rfl

theorem haltedStep_runPart (s : State) : runPart (haltedStep s) = runPart s := by
  have hadvance : runPart (advanceToEvent s) = runPart s := by
    unfold advanceToEvent
    split
    · exact processEvents_runPart _
    · rfl
  unfold haltedStep
  split
  · exact (interruptCheck_runPart _).trans hadvance
  · exact interruptCheck_runPart s

theorem endOfInstruction_runPart (armed : Bool) (s : State) : runPart (endOfInstruction armed s) = runPart s := by
  unfold endOfInstruction
  split
  · rfl
  · rfl

theorem afterInstruction_runPart (armed : Bool) (s : State) : runPart (afterInstruction armed s) = runPart s := by
  unfold afterInstruction
  split
  · rfl
  · exact ((interruptCheck_runPart _).trans (processEvents_runPart _)).trans (endOfInstruction_runPart ..)

/-- A step leaves the fault and RUNNING, or is an undefined opcode's: then nothing follows the recorded fault. -/
theorem step_runPart (h : step s = .next t) : runPart t = runPart s ∨ ∃ op, t = raiseIllegal op (consumeInput s) := by
  obtain ⟨-, rfl⟩ | ⟨-, -, rfl⟩ | ⟨-, -, -, rfl⟩ | ⟨-, -, -, h⟩ := step_cases h
  · exact .inl rfl
  · exact .inl (consumeInput_runPart s)
  · exact .inl ((haltedStep_runPart _).trans (consumeInput_runPart s))
  · obtain ⟨i, rest, u, -, hu, rfl⟩ := instructionStep_cases h
    obtain hkept | ⟨op, rfl⟩ := exec_runPart hu
    · exact .inl ((afterInstruction_runPart ..).trans (hkept.trans (consumeInput_runPart s)))
    · exact .inr ⟨op, if_pos rfl⟩

/-- What consuming the host input leaves. -/
theorem consumeInput_cpu (s : State) : (consumeInput s).counter = s.counter ∧ (consumeInput s).regs = s.regs ∧
    (consumeInput s).ime = s.ime ∧ (consumeInput s).imeArmed = s.imeArmed ∧ (consumeInput s).halted = s.halted := by
  unfold consumeInput
  split
  · exact ⟨rfl, rfl, rfl, rfl, rfl⟩
  · exact ⟨rfl, rfl, rfl, rfl, rfl⟩

end

/-! ## The host's calls -/

section
variable (s : State)

theorem startRun_running (h : s.running = true) : startRun s = .error .alreadyRunning := if_pos h

theorem startRun_ended (h : s.running = false) (hended : s.runEnded = true) : startRun s = .error .runEnded := by
  simp [startRun, h, hended]

theorem startRun_starts (h : s.running = false) (hended : s.runEnded = false) :
    startRun s = .ok { s with running := true } := by
  simp [startRun, h, hended]

theorem stopRun_running (h : s.running = true) : stopRun s = .ok (endRun { s with running := false }) := if_pos h

theorem stopRun_notRunning (h : s.running = false) : stopRun s = .error .notRunning := by simp [stopRun, h]

/-- The loop of a core that is not running ends its run in one turn. -/
theorem runLoop_notRunning (n : Nat) (h : s.running = false) :
    runLoop (n + 1) s = if s.runEnded then s else endRun s := by
  simp [runLoop, h]

end

/-! ## A reset -/

/-- What the statement says of a machine just loaded. -/
structure JustLoaded (host : HostSide) (s : State) : Prop where
  host : s.host = host.afterReset
  running : s.running = false
  runEnded : s.runEnded = false
  fault : s.fault = none
  ime : s.ime = false
  pc : s.regs.pc = 0x0100

theorem atReset_justLoaded (p : Params) (ram : InitRam) (gbc cgb : Bool) (cart : Cartridge) (rom : Memory)
    (host : HostSide) : JustLoaded host { State.atReset p ram gbc cgb cart rom with host := host.afterReset } := by
  have hpc : (Regs.atReset cgb).pc = 0x0100 := by cases cgb <;> rfl
  exact ⟨rfl, rfl, rfl, rfl, rfl, hpc⟩

theorem JustLoaded.importDump {host : HostSide} {s : State} (h : JustLoaded host s) (dump : List Byte) :
    JustLoaded host (importDump dump s) := by
  unfold Machine.importDump
  split
  · exact ⟨h.host, h.running, h.runEnded, h.fault, h.ime, h.pc⟩
  · exact h

theorem load_justLoaded {p : Params} {ram : InitRam} {gbc : Bool} {image : List Byte} {dump : Option (List Byte)}
    {host : HostSide} {s : State} (h : load p ram gbc image dump host = .ok s) : JustLoaded host s := by
  unfold load at h
  split at h
  next => cases h
  next cart _ =>
    have hreset := atReset_justLoaded p ram gbc (gbc && gbcCapable image) cart
      (Memory.ofBytes 0x00 (image.take (cart.romBanks * 0x4000))) host
    cases dump with
    | none => exact Except.ok.inj h ▸ hreset
    | some d =>
      obtain rfl := Except.ok.inj h
      split
      · exact hreset.importDump d
      · exact hreset

/-- Settles O60. -/
theorem lifeOfARun : Obligations.LifeOfARun := by
  unfold Obligations.LifeOfARun
  refine ⟨fun s t => ⟨fun h => ⟨startRun_running s h, stopRun_running s h⟩, startRun_ended s, startRun_starts s,
    stopRun_notRunning s, fun h => ?stopped, fun h hrun hend hnone => ?ends, fun h hnone hfault => ?fault,
    fun n h hn => ?loop, rfl⟩, fun p ram gbc image dump host s h => ?load⟩
  case stopped =>
    cases hrun : s.running with
    | true =>
      obtain rfl := Except.ok.inj ((stopRun_running s hrun).symm.trans h)
      exact ⟨_, startRun_ended _ rfl rfl⟩
    | false => cases (stopRun_notRunning s hrun).symm.trans h
  case ends =>
    obtain hkept | ⟨op, rfl⟩ := step_runPart h
    · cases hend.symm.trans ((congrArg Prod.snd hkept).trans hrun)
    · exact ⟨op, _, rfl⟩
  case fault =>
    obtain hkept | ⟨op, rfl⟩ := step_runPart h
    · exact absurd ((congrArg Prod.fst hkept).trans hnone) hfault
    · exact ⟨rfl, consumeInput_cpu s⟩
  case loop =>
    obtain ⟨n, rfl⟩ := Nat.exists_eq_succ_of_ne_zero (by omega : n ≠ 0)
    exact runLoop_notRunning s n h
  case load =>
    obtain ⟨hhost, hrun, hended, hfault, hime, hpc⟩ := load_justLoaded h
    rw [hhost]
    exact ⟨rfl, rfl, rfl, rfl, rfl, hrun, hended, hfault, hime, hpc⟩

end Sys2Proof.Proofs
end
